-- ==== Sys2Proof/Word.lean ====
section
/-! DEFINITION. The two word types of the machine (R7, R9): a byte is an unsigned 8-bit value, a word an unsigned
16-bit value. Their arithmetic is that of `BitVec`, which wraps (R145). -/

namespace Sys2Proof

/-- A byte, 0..255 (R9); the data bus and the general registers are 8 bits wide (R7). -/
abbrev Byte := BitVec 8

/-- A word, 0..65535 (R9); PC, SP and the address bus are 16 bits wide (R7). -/
abbrev Word := BitVec 16

end Sys2Proof
end

