-- ==== Sys2Proof/Config.lean ====
section
/-! DEFINITION. What an implementation fixes: the two open parameters of R8 that the running machine consults, and the
cartridge kinds the spec accepts. Every one is closed data; the machine carries its choice in `State`, so that a
statement over all states holds for every value of every parameter. -/

namespace Sys2Proof

/-- DESIGN CHOICE (log 2, unsafe). The byte that a location of the internal array, of external RAM or of the ROM image reads as
when nothing is listed for it: 0x00, the default of `MEM_INIT` and `EXTRAM_INIT` (92 D2, D3). -/
def Config.unlisted : Byte := 0x00

/-- `DISABLED_RAM_READ ∈ {0x00, 0xFF}` (R8, R63, 92 D8): the byte that absent or disabled external RAM reads as. -/
inductive DisabledRead where
  /-- 0x00, the source's repository (90 C1). -/
  | x00
  /-- 0xFF, what the source prefers (90 C1). -/
  | xFF
  deriving DecidableEq, Repr

/-- `DISPATCH_MCYCLES ∈ {3, 5}` (R8, R328, 92 D17): what an interrupt dispatch adds to its step. -/
inductive DispatchCost where
  /-- 3 M-cycles, the source's two statements and the default (90 C9). -/
  | three
  /-- 5 M-cycles, the published hardware figure. -/
  | five
  deriving DecidableEq, Repr

/-- The cartridge types R373 (d) accepts, by `ROM[0x147]`; any other type gives no machine (InitError, 92 D11). -/
inductive CartType where
  /-- 0x00, no mapper. -/
  | romOnly
  /-- 0x01, MBC1. -/
  | mbc1
  /-- 0x02, MBC1 with RAM. -/
  | mbc1Ram
  /-- 0x03, MBC1 with RAM and battery. -/
  | mbc1RamBattery
  /-- 0x08, no mapper, RAM. -/
  | romRam
  /-- 0x09, no mapper, RAM and battery. -/
  | romRamBattery
  deriving DecidableEq, Repr

/-- `MAPPER` (R8): how the bus treats 0x0000–0x7FFF and external RAM. -/
inductive Mapper where
  /-- `NONE` (R76). -/
  | plain
  /-- `MBC1` (R70 to R74). -/
  | mbc1
  deriving DecidableEq, Repr

end Sys2Proof
end

