-- ==== Sys2Proof/Syntax.lean ====
section
/-! DEFINITION. The instructions. `Instr` has one constructor for each of the 513 rows of spec/opcode_table.json (R123, R124, R131); a
row with immediate bytes carries them as operands (R119 to R121) and stands first (Lean's compiler numbers a constructor that has
arguments with a byte), the others follow in the table's order. The field types
name what the opcode's bits select (R113 to R118). -/

namespace Sys2Proof

/-- The seven registers of the 3-bit operand slot `r` (R113); slot 6 is `(HL)`, and F is not encodable there. -/
inductive Reg8 where
  | b | c | d | e | h | l | a
  deriving DecidableEq, Repr

/-- The 16-bit operands (R147): the pairs, which are views of the 8-bit registers (R21), and SP. -/
inductive Reg16 where
  | af | bc | de | hl | sp
  deriving DecidableEq, Repr

/-- The pair field of `LD rr,nn`, `INC rr`, `DEC rr`, `ADD HL,rr` (R114). -/
inductive Pair where
  | bc | de | hl | sp
  deriving DecidableEq, Repr

/-- The pair field of `PUSH rr`, `POP rr` (R115). -/
inductive StackPair where
  | bc | de | hl | af
  deriving DecidableEq, Repr

/-- The condition field (R116); the source's fifth condition, Always, is the unconditional form. -/
inductive Cond where
  | nz | z | nc | c
  deriving DecidableEq, Repr

/-- The accumulator operations of field `y` (R117). -/
inductive AluOp where
  | add | adc | sub | sbc | and | xor | or | cp
  deriving DecidableEq, Repr

/-- The CB page's shift and rotate operations, group 0 (R118). -/
inductive ShiftOp where
  | rlc | rrc | rl | rr | sla | sra | swap | srl
  deriving DecidableEq, Repr

/-- One constructor per row of spec/opcode_table.json. `n` is an unsigned immediate byte, `e` a signed one, `nn` a 16-bit
immediate, `b` the byte after 0x10. -/
inductive Instr where
  -- the rows of the primary page that carry an immediate (R123)
  | ldBcNn (nn : Word) -- 0x01: LD BC,nn
  | ldBN8 (n : Byte) -- 0x06: LD B,n8
  | ldAtNnSp (nn : Word) -- 0x08: LD (nn),SP
  | ldCN8 (n : Byte) -- 0x0E: LD C,n8
  | illegalStop (b : Byte) -- 0x10 b, b ≠ 0x00: no instruction (R126)
  | ldDeNn (nn : Word) -- 0x11: LD DE,nn
  | ldDN8 (n : Byte) -- 0x16: LD D,n8
  | jrE8 (e : Byte) -- 0x18: JR e8
  | ldEN8 (n : Byte) -- 0x1E: LD E,n8
  | jrNzE8 (e : Byte) -- 0x20: JR NZ,e8
  | ldHlNn (nn : Word) -- 0x21: LD HL,nn
  | ldHN8 (n : Byte) -- 0x26: LD H,n8
  | jrZE8 (e : Byte) -- 0x28: JR Z,e8
  | ldLN8 (n : Byte) -- 0x2E: LD L,n8
  | jrNcE8 (e : Byte) -- 0x30: JR NC,e8
  | ldSpNn (nn : Word) -- 0x31: LD SP,nn
  | ldAtHlN8 (n : Byte) -- 0x36: LD (HL),n8
  | jrCE8 (e : Byte) -- 0x38: JR C,e8
  | ldAN8 (n : Byte) -- 0x3E: LD A,n8
  | jpNzNn (nn : Word) -- 0xC2: JP NZ,nn
  | jpNn (nn : Word) -- 0xC3: JP nn
  | callNzNn (nn : Word) -- 0xC4: CALL NZ,nn
  | addAN8 (n : Byte) -- 0xC6: ADD A,n8
  | jpZNn (nn : Word) -- 0xCA: JP Z,nn
  | callZNn (nn : Word) -- 0xCC: CALL Z,nn
  | callNn (nn : Word) -- 0xCD: CALL nn
  | adcAN8 (n : Byte) -- 0xCE: ADC A,n8
  | jpNcNn (nn : Word) -- 0xD2: JP NC,nn
  | callNcNn (nn : Word) -- 0xD4: CALL NC,nn
  | subN8 (n : Byte) -- 0xD6: SUB n8
  | jpCNn (nn : Word) -- 0xDA: JP C,nn
  | callCNn (nn : Word) -- 0xDC: CALL C,nn
  | sbcAN8 (n : Byte) -- 0xDE: SBC A,n8
  | ldhAtN8A (n : Byte) -- 0xE0: LDH (n8),A
  | andN8 (n : Byte) -- 0xE6: AND n8
  | addSpE8 (e : Byte) -- 0xE8: ADD SP,e8
  | ldAtNnA (nn : Word) -- 0xEA: LD (nn),A
  | xorN8 (n : Byte) -- 0xEE: XOR n8
  | ldhAAtN8 (n : Byte) -- 0xF0: LDH A,(n8)
  | orN8 (n : Byte) -- 0xF6: OR n8
  | ldHlSpE8 (e : Byte) -- 0xF8: LD HL,SP+e8
  | ldAAtNn (nn : Word) -- 0xFA: LD A,(nn)
  | cpN8 (n : Byte) -- 0xFE: CP n8
  -- the other rows of the primary page (R123)
  | nop -- 0x00: NOP
  | ldAtBcA -- 0x02: LD (BC),A
  | incBc -- 0x03: INC BC
  | incB -- 0x04: INC B
  | decB -- 0x05: DEC B
  | rlca -- 0x07: RLCA
  | addHlBc -- 0x09: ADD HL,BC
  | ldAAtBc -- 0x0A: LD A,(BC)
  | decBc -- 0x0B: DEC BC
  | incC -- 0x0C: INC C
  | decC -- 0x0D: DEC C
  | rrca -- 0x0F: RRCA
  | stop -- 0x10 0x00: STOP
  | ldAtDeA -- 0x12: LD (DE),A
  | incDe -- 0x13: INC DE
  | incD -- 0x14: INC D
  | decD -- 0x15: DEC D
  | rla -- 0x17: RLA
  | addHlDe -- 0x19: ADD HL,DE
  | ldAAtDe -- 0x1A: LD A,(DE)
  | decDe -- 0x1B: DEC DE
  | incE -- 0x1C: INC E
  | decE -- 0x1D: DEC E
  | rra -- 0x1F: RRA
  | ldAtHlIncA -- 0x22: LD (HL+),A
  | incHl -- 0x23: INC HL
  | incH -- 0x24: INC H
  | decH -- 0x25: DEC H
  | daa -- 0x27: DAA
  | addHlHl -- 0x29: ADD HL,HL
  | ldAAtHlInc -- 0x2A: LD A,(HL+)
  | decHl -- 0x2B: DEC HL
  | incL -- 0x2C: INC L
  | decL -- 0x2D: DEC L
  | cpl -- 0x2F: CPL
  | ldAtHlDecA -- 0x32: LD (HL-),A
  | incSp -- 0x33: INC SP
  | incAtHl -- 0x34: INC (HL)
  | decAtHl -- 0x35: DEC (HL)
  | scf -- 0x37: SCF
  | addHlSp -- 0x39: ADD HL,SP
  | ldAAtHlDec -- 0x3A: LD A,(HL-)
  | decSp -- 0x3B: DEC SP
  | incA -- 0x3C: INC A
  | decA -- 0x3D: DEC A
  | ccf -- 0x3F: CCF
  | ldBB -- 0x40: LD B,B
  | ldBC -- 0x41: LD B,C
  | ldBD -- 0x42: LD B,D
  | ldBE -- 0x43: LD B,E
  | ldBH -- 0x44: LD B,H
  | ldBL -- 0x45: LD B,L
  | ldBAtHl -- 0x46: LD B,(HL)
  | ldBA -- 0x47: LD B,A
  | ldCB -- 0x48: LD C,B
  | ldCC -- 0x49: LD C,C
  | ldCD -- 0x4A: LD C,D
  | ldCE -- 0x4B: LD C,E
  | ldCH -- 0x4C: LD C,H
  | ldCL -- 0x4D: LD C,L
  | ldCAtHl -- 0x4E: LD C,(HL)
  | ldCA -- 0x4F: LD C,A
  | ldDB -- 0x50: LD D,B
  | ldDC -- 0x51: LD D,C
  | ldDD -- 0x52: LD D,D
  | ldDE -- 0x53: LD D,E
  | ldDH -- 0x54: LD D,H
  | ldDL -- 0x55: LD D,L
  | ldDAtHl -- 0x56: LD D,(HL)
  | ldDA -- 0x57: LD D,A
  | ldEB -- 0x58: LD E,B
  | ldEC -- 0x59: LD E,C
  | ldED -- 0x5A: LD E,D
  | ldEE -- 0x5B: LD E,E
  | ldEH -- 0x5C: LD E,H
  | ldEL -- 0x5D: LD E,L
  | ldEAtHl -- 0x5E: LD E,(HL)
  | ldEA -- 0x5F: LD E,A
  | ldHB -- 0x60: LD H,B
  | ldHC -- 0x61: LD H,C
  | ldHD -- 0x62: LD H,D
  | ldHE -- 0x63: LD H,E
  | ldHH -- 0x64: LD H,H
  | ldHL -- 0x65: LD H,L
  | ldHAtHl -- 0x66: LD H,(HL)
  | ldHA -- 0x67: LD H,A
  | ldLB -- 0x68: LD L,B
  | ldLC -- 0x69: LD L,C
  | ldLD -- 0x6A: LD L,D
  | ldLE -- 0x6B: LD L,E
  | ldLH -- 0x6C: LD L,H
  | ldLL -- 0x6D: LD L,L
  | ldLAtHl -- 0x6E: LD L,(HL)
  | ldLA -- 0x6F: LD L,A
  | ldAtHlB -- 0x70: LD (HL),B
  | ldAtHlC -- 0x71: LD (HL),C
  | ldAtHlD -- 0x72: LD (HL),D
  | ldAtHlE -- 0x73: LD (HL),E
  | ldAtHlH -- 0x74: LD (HL),H
  | ldAtHlL -- 0x75: LD (HL),L
  | halt -- 0x76: HALT
  | ldAtHlA -- 0x77: LD (HL),A
  | ldAB -- 0x78: LD A,B
  | ldAC -- 0x79: LD A,C
  | ldAD -- 0x7A: LD A,D
  | ldAE -- 0x7B: LD A,E
  | ldAH -- 0x7C: LD A,H
  | ldAL -- 0x7D: LD A,L
  | ldAAtHl -- 0x7E: LD A,(HL)
  | ldAA -- 0x7F: LD A,A
  | addAB -- 0x80: ADD A,B
  | addAC -- 0x81: ADD A,C
  | addAD -- 0x82: ADD A,D
  | addAE -- 0x83: ADD A,E
  | addAH -- 0x84: ADD A,H
  | addAL -- 0x85: ADD A,L
  | addAAtHl -- 0x86: ADD A,(HL)
  | addAA -- 0x87: ADD A,A
  | adcAB -- 0x88: ADC A,B
  | adcAC -- 0x89: ADC A,C
  | adcAD -- 0x8A: ADC A,D
  | adcAE -- 0x8B: ADC A,E
  | adcAH -- 0x8C: ADC A,H
  | adcAL -- 0x8D: ADC A,L
  | adcAAtHl -- 0x8E: ADC A,(HL)
  | adcAA -- 0x8F: ADC A,A
  | subB -- 0x90: SUB B
  | subC -- 0x91: SUB C
  | subD -- 0x92: SUB D
  | subE -- 0x93: SUB E
  | subH -- 0x94: SUB H
  | subL -- 0x95: SUB L
  | subAtHl -- 0x96: SUB (HL)
  | subA -- 0x97: SUB A
  | sbcAB -- 0x98: SBC A,B
  | sbcAC -- 0x99: SBC A,C
  | sbcAD -- 0x9A: SBC A,D
  | sbcAE -- 0x9B: SBC A,E
  | sbcAH -- 0x9C: SBC A,H
  | sbcAL -- 0x9D: SBC A,L
  | sbcAAtHl -- 0x9E: SBC A,(HL)
  | sbcAA -- 0x9F: SBC A,A
  | andB -- 0xA0: AND B
  | andC -- 0xA1: AND C
  | andD -- 0xA2: AND D
  | andE -- 0xA3: AND E
  | andH -- 0xA4: AND H
  | andL -- 0xA5: AND L
  | andAtHl -- 0xA6: AND (HL)
  | andA -- 0xA7: AND A
  | xorB -- 0xA8: XOR B
  | xorC -- 0xA9: XOR C
  | xorD -- 0xAA: XOR D
  | xorE -- 0xAB: XOR E
  | xorH -- 0xAC: XOR H
  | xorL -- 0xAD: XOR L
  | xorAtHl -- 0xAE: XOR (HL)
  | xorA -- 0xAF: XOR A
  | orB -- 0xB0: OR B
  | orC -- 0xB1: OR C
  | orD -- 0xB2: OR D
  | orE -- 0xB3: OR E
  | orH -- 0xB4: OR H
  | orL -- 0xB5: OR L
  | orAtHl -- 0xB6: OR (HL)
  | orA -- 0xB7: OR A
  | cpB -- 0xB8: CP B
  | cpC -- 0xB9: CP C
  | cpD -- 0xBA: CP D
  | cpE -- 0xBB: CP E
  | cpH -- 0xBC: CP H
  | cpL -- 0xBD: CP L
  | cpAtHl -- 0xBE: CP (HL)
  | cpA -- 0xBF: CP A
  | retNz -- 0xC0: RET NZ
  | popBc -- 0xC1: POP BC
  | pushBc -- 0xC5: PUSH BC
  | rst00 -- 0xC7: RST 0x00
  | retZ -- 0xC8: RET Z
  | ret -- 0xC9: RET
  | prefixCb -- 0xCB: PREFIX CB
  | rst08 -- 0xCF: RST 0x08
  | retNc -- 0xD0: RET NC
  | popDe -- 0xD1: POP DE
  | illegalD3 -- 0xD3: ILLEGAL 0xD3
  | pushDe -- 0xD5: PUSH DE
  | rst10 -- 0xD7: RST 0x10
  | retC -- 0xD8: RET C
  | reti -- 0xD9: RETI
  | illegalDB -- 0xDB: ILLEGAL 0xDB
  | illegalDD -- 0xDD: ILLEGAL 0xDD
  | rst18 -- 0xDF: RST 0x18
  | popHl -- 0xE1: POP HL
  | ldAtCA -- 0xE2: LD (C),A
  | illegalE3 -- 0xE3: ILLEGAL 0xE3
  | illegalE4 -- 0xE4: ILLEGAL 0xE4
  | pushHl -- 0xE5: PUSH HL
  | rst20 -- 0xE7: RST 0x20
  | jpHl -- 0xE9: JP HL
  | illegalEB -- 0xEB: ILLEGAL 0xEB
  | illegalEC -- 0xEC: ILLEGAL 0xEC
  | illegalED -- 0xED: ILLEGAL 0xED
  | rst28 -- 0xEF: RST 0x28
  | popAf -- 0xF1: POP AF
  | ldAAtC -- 0xF2: LD A,(C)
  | di -- 0xF3: DI
  | illegalF4 -- 0xF4: ILLEGAL 0xF4
  | pushAf -- 0xF5: PUSH AF
  | rst30 -- 0xF7: RST 0x30
  | ldSpHl -- 0xF9: LD SP,HL
  | ei -- 0xFB: EI
  | illegalFC -- 0xFC: ILLEGAL 0xFC
  | illegalFD -- 0xFD: ILLEGAL 0xFD
  | rst38 -- 0xFF: RST 0x38
  -- the CB page, 0xCB 0x00 to 0xCB 0xFF (R124)
  | rlcB -- 0xCB 0x00: RLC B
  | rlcC -- 0xCB 0x01: RLC C
  | rlcD -- 0xCB 0x02: RLC D
  | rlcE -- 0xCB 0x03: RLC E
  | rlcH -- 0xCB 0x04: RLC H
  | rlcL -- 0xCB 0x05: RLC L
  | rlcAtHl -- 0xCB 0x06: RLC (HL)
  | rlcA -- 0xCB 0x07: RLC A
  | rrcB -- 0xCB 0x08: RRC B
  | rrcC -- 0xCB 0x09: RRC C
  | rrcD -- 0xCB 0x0A: RRC D
  | rrcE -- 0xCB 0x0B: RRC E
  | rrcH -- 0xCB 0x0C: RRC H
  | rrcL -- 0xCB 0x0D: RRC L
  | rrcAtHl -- 0xCB 0x0E: RRC (HL)
  | rrcA -- 0xCB 0x0F: RRC A
  | rlB -- 0xCB 0x10: RL B
  | rlC -- 0xCB 0x11: RL C
  | rlD -- 0xCB 0x12: RL D
  | rlE -- 0xCB 0x13: RL E
  | rlH -- 0xCB 0x14: RL H
  | rlL -- 0xCB 0x15: RL L
  | rlAtHl -- 0xCB 0x16: RL (HL)
  | rlA -- 0xCB 0x17: RL A
  | rrB -- 0xCB 0x18: RR B
  | rrC -- 0xCB 0x19: RR C
  | rrD -- 0xCB 0x1A: RR D
  | rrE -- 0xCB 0x1B: RR E
  | rrH -- 0xCB 0x1C: RR H
  | rrL -- 0xCB 0x1D: RR L
  | rrAtHl -- 0xCB 0x1E: RR (HL)
  | rrA -- 0xCB 0x1F: RR A
  | slaB -- 0xCB 0x20: SLA B
  | slaC -- 0xCB 0x21: SLA C
  | slaD -- 0xCB 0x22: SLA D
  | slaE -- 0xCB 0x23: SLA E
  | slaH -- 0xCB 0x24: SLA H
  | slaL -- 0xCB 0x25: SLA L
  | slaAtHl -- 0xCB 0x26: SLA (HL)
  | slaA -- 0xCB 0x27: SLA A
  | sraB -- 0xCB 0x28: SRA B
  | sraC -- 0xCB 0x29: SRA C
  | sraD -- 0xCB 0x2A: SRA D
  | sraE -- 0xCB 0x2B: SRA E
  | sraH -- 0xCB 0x2C: SRA H
  | sraL -- 0xCB 0x2D: SRA L
  | sraAtHl -- 0xCB 0x2E: SRA (HL)
  | sraA -- 0xCB 0x2F: SRA A
  | swapB -- 0xCB 0x30: SWAP B
  | swapC -- 0xCB 0x31: SWAP C
  | swapD -- 0xCB 0x32: SWAP D
  | swapE -- 0xCB 0x33: SWAP E
  | swapH -- 0xCB 0x34: SWAP H
  | swapL -- 0xCB 0x35: SWAP L
  | swapAtHl -- 0xCB 0x36: SWAP (HL)
  | swapA -- 0xCB 0x37: SWAP A
  | srlB -- 0xCB 0x38: SRL B
  | srlC -- 0xCB 0x39: SRL C
  | srlD -- 0xCB 0x3A: SRL D
  | srlE -- 0xCB 0x3B: SRL E
  | srlH -- 0xCB 0x3C: SRL H
  | srlL -- 0xCB 0x3D: SRL L
  | srlAtHl -- 0xCB 0x3E: SRL (HL)
  | srlA -- 0xCB 0x3F: SRL A
  | bit0B -- 0xCB 0x40: BIT 0,B
  | bit0C -- 0xCB 0x41: BIT 0,C
  | bit0D -- 0xCB 0x42: BIT 0,D
  | bit0E -- 0xCB 0x43: BIT 0,E
  | bit0H -- 0xCB 0x44: BIT 0,H
  | bit0L -- 0xCB 0x45: BIT 0,L
  | bit0AtHl -- 0xCB 0x46: BIT 0,(HL)
  | bit0A -- 0xCB 0x47: BIT 0,A
  | bit1B -- 0xCB 0x48: BIT 1,B
  | bit1C -- 0xCB 0x49: BIT 1,C
  | bit1D -- 0xCB 0x4A: BIT 1,D
  | bit1E -- 0xCB 0x4B: BIT 1,E
  | bit1H -- 0xCB 0x4C: BIT 1,H
  | bit1L -- 0xCB 0x4D: BIT 1,L
  | bit1AtHl -- 0xCB 0x4E: BIT 1,(HL)
  | bit1A -- 0xCB 0x4F: BIT 1,A
  | bit2B -- 0xCB 0x50: BIT 2,B
  | bit2C -- 0xCB 0x51: BIT 2,C
  | bit2D -- 0xCB 0x52: BIT 2,D
  | bit2E -- 0xCB 0x53: BIT 2,E
  | bit2H -- 0xCB 0x54: BIT 2,H
  | bit2L -- 0xCB 0x55: BIT 2,L
  | bit2AtHl -- 0xCB 0x56: BIT 2,(HL)
  | bit2A -- 0xCB 0x57: BIT 2,A
  | bit3B -- 0xCB 0x58: BIT 3,B
  | bit3C -- 0xCB 0x59: BIT 3,C
  | bit3D -- 0xCB 0x5A: BIT 3,D
  | bit3E -- 0xCB 0x5B: BIT 3,E
  | bit3H -- 0xCB 0x5C: BIT 3,H
  | bit3L -- 0xCB 0x5D: BIT 3,L
  | bit3AtHl -- 0xCB 0x5E: BIT 3,(HL)
  | bit3A -- 0xCB 0x5F: BIT 3,A
  | bit4B -- 0xCB 0x60: BIT 4,B
  | bit4C -- 0xCB 0x61: BIT 4,C
  | bit4D -- 0xCB 0x62: BIT 4,D
  | bit4E -- 0xCB 0x63: BIT 4,E
  | bit4H -- 0xCB 0x64: BIT 4,H
  | bit4L -- 0xCB 0x65: BIT 4,L
  | bit4AtHl -- 0xCB 0x66: BIT 4,(HL)
  | bit4A -- 0xCB 0x67: BIT 4,A
  | bit5B -- 0xCB 0x68: BIT 5,B
  | bit5C -- 0xCB 0x69: BIT 5,C
  | bit5D -- 0xCB 0x6A: BIT 5,D
  | bit5E -- 0xCB 0x6B: BIT 5,E
  | bit5H -- 0xCB 0x6C: BIT 5,H
  | bit5L -- 0xCB 0x6D: BIT 5,L
  | bit5AtHl -- 0xCB 0x6E: BIT 5,(HL)
  | bit5A -- 0xCB 0x6F: BIT 5,A
  | bit6B -- 0xCB 0x70: BIT 6,B
  | bit6C -- 0xCB 0x71: BIT 6,C
  | bit6D -- 0xCB 0x72: BIT 6,D
  | bit6E -- 0xCB 0x73: BIT 6,E
  | bit6H -- 0xCB 0x74: BIT 6,H
  | bit6L -- 0xCB 0x75: BIT 6,L
  | bit6AtHl -- 0xCB 0x76: BIT 6,(HL)
  | bit6A -- 0xCB 0x77: BIT 6,A
  | bit7B -- 0xCB 0x78: BIT 7,B
  | bit7C -- 0xCB 0x79: BIT 7,C
  | bit7D -- 0xCB 0x7A: BIT 7,D
  | bit7E -- 0xCB 0x7B: BIT 7,E
  | bit7H -- 0xCB 0x7C: BIT 7,H
  | bit7L -- 0xCB 0x7D: BIT 7,L
  | bit7AtHl -- 0xCB 0x7E: BIT 7,(HL)
  | bit7A -- 0xCB 0x7F: BIT 7,A
  | res0B -- 0xCB 0x80: RES 0,B
  | res0C -- 0xCB 0x81: RES 0,C
  | res0D -- 0xCB 0x82: RES 0,D
  | res0E -- 0xCB 0x83: RES 0,E
  | res0H -- 0xCB 0x84: RES 0,H
  | res0L -- 0xCB 0x85: RES 0,L
  | res0AtHl -- 0xCB 0x86: RES 0,(HL)
  | res0A -- 0xCB 0x87: RES 0,A
  | res1B -- 0xCB 0x88: RES 1,B
  | res1C -- 0xCB 0x89: RES 1,C
  | res1D -- 0xCB 0x8A: RES 1,D
  | res1E -- 0xCB 0x8B: RES 1,E
  | res1H -- 0xCB 0x8C: RES 1,H
  | res1L -- 0xCB 0x8D: RES 1,L
  | res1AtHl -- 0xCB 0x8E: RES 1,(HL)
  | res1A -- 0xCB 0x8F: RES 1,A
  | res2B -- 0xCB 0x90: RES 2,B
  | res2C -- 0xCB 0x91: RES 2,C
  | res2D -- 0xCB 0x92: RES 2,D
  | res2E -- 0xCB 0x93: RES 2,E
  | res2H -- 0xCB 0x94: RES 2,H
  | res2L -- 0xCB 0x95: RES 2,L
  | res2AtHl -- 0xCB 0x96: RES 2,(HL)
  | res2A -- 0xCB 0x97: RES 2,A
  | res3B -- 0xCB 0x98: RES 3,B
  | res3C -- 0xCB 0x99: RES 3,C
  | res3D -- 0xCB 0x9A: RES 3,D
  | res3E -- 0xCB 0x9B: RES 3,E
  | res3H -- 0xCB 0x9C: RES 3,H
  | res3L -- 0xCB 0x9D: RES 3,L
  | res3AtHl -- 0xCB 0x9E: RES 3,(HL)
  | res3A -- 0xCB 0x9F: RES 3,A
  | res4B -- 0xCB 0xA0: RES 4,B
  | res4C -- 0xCB 0xA1: RES 4,C
  | res4D -- 0xCB 0xA2: RES 4,D
  | res4E -- 0xCB 0xA3: RES 4,E
  | res4H -- 0xCB 0xA4: RES 4,H
  | res4L -- 0xCB 0xA5: RES 4,L
  | res4AtHl -- 0xCB 0xA6: RES 4,(HL)
  | res4A -- 0xCB 0xA7: RES 4,A
  | res5B -- 0xCB 0xA8: RES 5,B
  | res5C -- 0xCB 0xA9: RES 5,C
  | res5D -- 0xCB 0xAA: RES 5,D
  | res5E -- 0xCB 0xAB: RES 5,E
  | res5H -- 0xCB 0xAC: RES 5,H
  | res5L -- 0xCB 0xAD: RES 5,L
  | res5AtHl -- 0xCB 0xAE: RES 5,(HL)
  | res5A -- 0xCB 0xAF: RES 5,A
  | res6B -- 0xCB 0xB0: RES 6,B
  | res6C -- 0xCB 0xB1: RES 6,C
  | res6D -- 0xCB 0xB2: RES 6,D
  | res6E -- 0xCB 0xB3: RES 6,E
  | res6H -- 0xCB 0xB4: RES 6,H
  | res6L -- 0xCB 0xB5: RES 6,L
  | res6AtHl -- 0xCB 0xB6: RES 6,(HL)
  | res6A -- 0xCB 0xB7: RES 6,A
  | res7B -- 0xCB 0xB8: RES 7,B
  | res7C -- 0xCB 0xB9: RES 7,C
  | res7D -- 0xCB 0xBA: RES 7,D
  | res7E -- 0xCB 0xBB: RES 7,E
  | res7H -- 0xCB 0xBC: RES 7,H
  | res7L -- 0xCB 0xBD: RES 7,L
  | res7AtHl -- 0xCB 0xBE: RES 7,(HL)
  | res7A -- 0xCB 0xBF: RES 7,A
  | set0B -- 0xCB 0xC0: SET 0,B
  | set0C -- 0xCB 0xC1: SET 0,C
  | set0D -- 0xCB 0xC2: SET 0,D
  | set0E -- 0xCB 0xC3: SET 0,E
  | set0H -- 0xCB 0xC4: SET 0,H
  | set0L -- 0xCB 0xC5: SET 0,L
  | set0AtHl -- 0xCB 0xC6: SET 0,(HL)
  | set0A -- 0xCB 0xC7: SET 0,A
  | set1B -- 0xCB 0xC8: SET 1,B
  | set1C -- 0xCB 0xC9: SET 1,C
  | set1D -- 0xCB 0xCA: SET 1,D
  | set1E -- 0xCB 0xCB: SET 1,E
  | set1H -- 0xCB 0xCC: SET 1,H
  | set1L -- 0xCB 0xCD: SET 1,L
  | set1AtHl -- 0xCB 0xCE: SET 1,(HL)
  | set1A -- 0xCB 0xCF: SET 1,A
  | set2B -- 0xCB 0xD0: SET 2,B
  | set2C -- 0xCB 0xD1: SET 2,C
  | set2D -- 0xCB 0xD2: SET 2,D
  | set2E -- 0xCB 0xD3: SET 2,E
  | set2H -- 0xCB 0xD4: SET 2,H
  | set2L -- 0xCB 0xD5: SET 2,L
  | set2AtHl -- 0xCB 0xD6: SET 2,(HL)
  | set2A -- 0xCB 0xD7: SET 2,A
  | set3B -- 0xCB 0xD8: SET 3,B
  | set3C -- 0xCB 0xD9: SET 3,C
  | set3D -- 0xCB 0xDA: SET 3,D
  | set3E -- 0xCB 0xDB: SET 3,E
  | set3H -- 0xCB 0xDC: SET 3,H
  | set3L -- 0xCB 0xDD: SET 3,L
  | set3AtHl -- 0xCB 0xDE: SET 3,(HL)
  | set3A -- 0xCB 0xDF: SET 3,A
  | set4B -- 0xCB 0xE0: SET 4,B
  | set4C -- 0xCB 0xE1: SET 4,C
  | set4D -- 0xCB 0xE2: SET 4,D
  | set4E -- 0xCB 0xE3: SET 4,E
  | set4H -- 0xCB 0xE4: SET 4,H
  | set4L -- 0xCB 0xE5: SET 4,L
  | set4AtHl -- 0xCB 0xE6: SET 4,(HL)
  | set4A -- 0xCB 0xE7: SET 4,A
  | set5B -- 0xCB 0xE8: SET 5,B
  | set5C -- 0xCB 0xE9: SET 5,C
  | set5D -- 0xCB 0xEA: SET 5,D
  | set5E -- 0xCB 0xEB: SET 5,E
  | set5H -- 0xCB 0xEC: SET 5,H
  | set5L -- 0xCB 0xED: SET 5,L
  | set5AtHl -- 0xCB 0xEE: SET 5,(HL)
  | set5A -- 0xCB 0xEF: SET 5,A
  | set6B -- 0xCB 0xF0: SET 6,B
  | set6C -- 0xCB 0xF1: SET 6,C
  | set6D -- 0xCB 0xF2: SET 6,D
  | set6E -- 0xCB 0xF3: SET 6,E
  | set6H -- 0xCB 0xF4: SET 6,H
  | set6L -- 0xCB 0xF5: SET 6,L
  | set6AtHl -- 0xCB 0xF6: SET 6,(HL)
  | set6A -- 0xCB 0xF7: SET 6,A
  | set7B -- 0xCB 0xF8: SET 7,B
  | set7C -- 0xCB 0xF9: SET 7,C
  | set7D -- 0xCB 0xFA: SET 7,D
  | set7E -- 0xCB 0xFB: SET 7,E
  | set7H -- 0xCB 0xFC: SET 7,H
  | set7L -- 0xCB 0xFD: SET 7,L
  | set7AtHl -- 0xCB 0xFE: SET 7,(HL)
  | set7A -- 0xCB 0xFF: SET 7,A
  deriving DecidableEq, Repr

end Sys2Proof
end

