-- ==== Sys2Proof/WellFormed.lean ====
section
/-! DEFINITION. Which terms of `Instr` stand for encodings. Every operand's range is its type's; the one remaining check is that
the second byte of the undefined 0x10 form is not 0x00, which would be `STOP` (R126). -/

namespace Sys2Proof

/-- The checks on an instruction's operands (R126: `0x10 0x00` is STOP, so the undefined form has a non-zero byte). -/
def Instr.wellFormed (i : Instr) : Bool :=
  match i with
  | .illegalStop b => b != 0x00
  | _ => true

end Sys2Proof
end

