-- ==== Sys2Proof/Decode.lean ====
section
/-! DEFINITION. The decoder (R110 to R128), total on every byte sequence, and after it the encoder. The decoder splits the opcode byte
into its fields (R111) and reads the grids of R123 and R124 by them, one definition for each `z` column of a page; the encoder lists
the opcode bytes of every row of the table, so that the two come from different parts of the spec. -/

namespace Sys2Proof

/-! ## Fields -/

/-- `x = op[7:6]` of a primary opcode, `g` of a CB opcode (R111). -/
def fieldX (op : Byte) : BitVec 2 := op.extractLsb' 6 2

/-- `y = op[5:3]` of a primary opcode, `b` of a CB opcode (R111). -/
def fieldY (op : Byte) : BitVec 3 := op.extractLsb' 3 3

/-- `z = op[2:0]` of a primary opcode, `r` of a CB opcode (R111). -/
def fieldZ (op : Byte) : BitVec 3 := op.extractLsb' 0 3

/-- The 16-bit immediate of two bytes, the first one fetched being the low byte (R121). -/
def wordOfBytes (lo hi : Byte) : Word := hi ++ lo

/-- The low byte of a word, `v[7:0]`. -/
def loByte (v : Word) : Byte := v.extractLsb' 0 8

/-- The high byte of a word, `v[15:8]`. -/
def hiByte (v : Word) : Byte := v.extractLsb' 8 8

/-- The operand slot of a register (R113). -/
def Reg8.code : Reg8 → BitVec 3
  | .b => 0 | .c => 1 | .d => 2 | .e => 3 | .h => 4 | .l => 5 | .a => 7

/-- The slot of the memory byte at `x[HL]` (R113). -/
def slotHL : BitVec 3 := 6

/-- The pair field of R114. -/
def Pair.code : Pair → BitVec 2
  | .bc => 0 | .de => 1 | .hl => 2 | .sp => 3

/-- The pair field of R115. -/
def StackPair.code : StackPair → BitVec 2
  | .bc => 0 | .de => 1 | .hl => 2 | .af => 3

/-- The condition field of R116. -/
def Cond.code : Cond → BitVec 2
  | .nz => 0 | .z => 1 | .nc => 2 | .c => 3

/-- The operation field of R117. -/
def AluOp.code : AluOp → BitVec 3
  | .add => 0 | .adc => 1 | .sub => 2 | .sbc => 3 | .and => 4 | .xor => 5 | .or => 6 | .cp => 7

/-- The operation field of group 0 of the CB page (R118). -/
def ShiftOp.code : ShiftOp → BitVec 3
  | .rlc => 0 | .rrc => 1 | .rl => 2 | .rr => 3 | .sla => 4 | .sra => 5 | .swap => 6 | .srl => 7

/-- The choice that a 3-bit field makes among eight. -/
def pick8 {α : Type} (n : BitVec 3) (v0 v1 v2 v3 v4 v5 v6 v7 : α) : α :=
  match n.toNat with
  | 0 => v0 | 1 => v1 | 2 => v2 | 3 => v3 | 4 => v4 | 5 => v5 | 6 => v6 | _ => v7

/-- The choice that a 2-bit field makes among four. -/
def pick4 {α : Type} (n : BitVec 2) (v0 v1 v2 v3 : α) : α :=
  match n.toNat with
  | 0 => v0 | 1 => v1 | 2 => v2 | _ => v3

/-! ## The CB page (R118, R124) -/

/-- Group 0: `b` selects the shift or rotate, `r` the slot (R118). -/
def rowShift (b r : BitVec 3) : Instr :=
  pick8 b
    (pick8 r .rlcB .rlcC .rlcD .rlcE .rlcH .rlcL .rlcAtHl .rlcA)
    (pick8 r .rrcB .rrcC .rrcD .rrcE .rrcH .rrcL .rrcAtHl .rrcA)
    (pick8 r .rlB .rlC .rlD .rlE .rlH .rlL .rlAtHl .rlA)
    (pick8 r .rrB .rrC .rrD .rrE .rrH .rrL .rrAtHl .rrA)
    (pick8 r .slaB .slaC .slaD .slaE .slaH .slaL .slaAtHl .slaA)
    (pick8 r .sraB .sraC .sraD .sraE .sraH .sraL .sraAtHl .sraA)
    (pick8 r .swapB .swapC .swapD .swapE .swapH .swapL .swapAtHl .swapA)
    (pick8 r .srlB .srlC .srlD .srlE .srlH .srlL .srlAtHl .srlA)

/-- Group 1: `BIT b, r` (R118). -/
def rowBit (b r : BitVec 3) : Instr :=
  pick8 b
    (pick8 r .bit0B .bit0C .bit0D .bit0E .bit0H .bit0L .bit0AtHl .bit0A)
    (pick8 r .bit1B .bit1C .bit1D .bit1E .bit1H .bit1L .bit1AtHl .bit1A)
    (pick8 r .bit2B .bit2C .bit2D .bit2E .bit2H .bit2L .bit2AtHl .bit2A)
    (pick8 r .bit3B .bit3C .bit3D .bit3E .bit3H .bit3L .bit3AtHl .bit3A)
    (pick8 r .bit4B .bit4C .bit4D .bit4E .bit4H .bit4L .bit4AtHl .bit4A)
    (pick8 r .bit5B .bit5C .bit5D .bit5E .bit5H .bit5L .bit5AtHl .bit5A)
    (pick8 r .bit6B .bit6C .bit6D .bit6E .bit6H .bit6L .bit6AtHl .bit6A)
    (pick8 r .bit7B .bit7C .bit7D .bit7E .bit7H .bit7L .bit7AtHl .bit7A)

/-- Group 2: `RES b, r` (R118). -/
def rowRes (b r : BitVec 3) : Instr :=
  pick8 b
    (pick8 r .res0B .res0C .res0D .res0E .res0H .res0L .res0AtHl .res0A)
    (pick8 r .res1B .res1C .res1D .res1E .res1H .res1L .res1AtHl .res1A)
    (pick8 r .res2B .res2C .res2D .res2E .res2H .res2L .res2AtHl .res2A)
    (pick8 r .res3B .res3C .res3D .res3E .res3H .res3L .res3AtHl .res3A)
    (pick8 r .res4B .res4C .res4D .res4E .res4H .res4L .res4AtHl .res4A)
    (pick8 r .res5B .res5C .res5D .res5E .res5H .res5L .res5AtHl .res5A)
    (pick8 r .res6B .res6C .res6D .res6E .res6H .res6L .res6AtHl .res6A)
    (pick8 r .res7B .res7C .res7D .res7E .res7H .res7L .res7AtHl .res7A)

/-- Group 3: `SET b, r` (R118). -/
def rowSet (b r : BitVec 3) : Instr :=
  pick8 b
    (pick8 r .set0B .set0C .set0D .set0E .set0H .set0L .set0AtHl .set0A)
    (pick8 r .set1B .set1C .set1D .set1E .set1H .set1L .set1AtHl .set1A)
    (pick8 r .set2B .set2C .set2D .set2E .set2H .set2L .set2AtHl .set2A)
    (pick8 r .set3B .set3C .set3D .set3E .set3H .set3L .set3AtHl .set3A)
    (pick8 r .set4B .set4C .set4D .set4E .set4H .set4L .set4AtHl .set4A)
    (pick8 r .set5B .set5C .set5D .set5E .set5H .set5L .set5AtHl .set5A)
    (pick8 r .set6B .set6C .set6D .set6E .set6H .set6L .set6AtHl .set6A)
    (pick8 r .set7B .set7C .set7D .set7E .set7H .set7L .set7AtHl .set7A)

/-- The CB-page instruction of the byte after 0xCB (R124); all 256 are defined. -/
def cbRow (cb : Byte) : Instr :=
  pick4 (fieldX cb) (rowShift (fieldY cb) (fieldZ cb)) (rowBit (fieldY cb) (fieldZ cb)) (rowRes (fieldY cb) (fieldZ cb))
    (rowSet (fieldY cb) (fieldZ cb))

/-! ## The primary page (R112, R123) -/

/-- `x = 0, z = 0`: NOP, LD (nn),SP, the 0x10 pair (R126) and the relative jumps. -/
def rowMisc (y : BitVec 3) (n : Byte) (nn : Word) : Instr :=
  pick8 y .nop (.ldAtNnSp nn) (if n = 0x00 then .stop else .illegalStop n) (.jrE8 n) (.jrNzE8 n) (.jrZE8 n) (.jrNcE8 n) (.jrCE8 n)

/-- `x = 0, z = 1`: `q = 0` LD rr,nn and `q = 1` ADD HL,rr (R114). -/
def rowPairImm (y : BitVec 3) (nn : Word) : Instr :=
  pick8 y (.ldBcNn nn) .addHlBc (.ldDeNn nn) .addHlDe (.ldHlNn nn) .addHlHl (.ldSpNn nn) .addHlSp

/-- `x = 0, z = 2`: the indirect-pointer forms, `q = 0` storing A and `q = 1` loading it (R117). -/
def rowIndirect (y : BitVec 3) : Instr :=
  pick8 y .ldAtBcA .ldAAtBc .ldAtDeA .ldAAtDe .ldAtHlIncA .ldAAtHlInc .ldAtHlDecA .ldAAtHlDec

/-- `x = 0, z = 3`: `q = 0` INC rr and `q = 1` DEC rr (R114). -/
def rowIncDecPair (y : BitVec 3) : Instr := pick8 y .incBc .decBc .incDe .decDe .incHl .decHl .incSp .decSp

/-- `x = 0, z = 4`: INC r. -/
def rowInc (y : BitVec 3) : Instr := pick8 y .incB .incC .incD .incE .incH .incL .incAtHl .incA

/-- `x = 0, z = 5`: DEC r. -/
def rowDec (y : BitVec 3) : Instr := pick8 y .decB .decC .decD .decE .decH .decL .decAtHl .decA

/-- `x = 0, z = 6`: LD r,n8. -/
def rowLdImm (y : BitVec 3) (n : Byte) : Instr :=
  pick8 y (.ldBN8 n) (.ldCN8 n) (.ldDN8 n) (.ldEN8 n) (.ldHN8 n) (.ldLN8 n) (.ldAtHlN8 n) (.ldAN8 n)

/-- `x = 0, z = 7`: the accumulator rotates and the flag operations. -/
def rowAccumulator (y : BitVec 3) : Instr := pick8 y .rlca .rrca .rla .rra .daa .cpl .scf .ccf

/-- `x = 0` (R112). -/
def rowX0 (y z : BitVec 3) (n : Byte) (nn : Word) : Instr :=
  pick8 z (rowMisc y n nn) (rowPairImm y nn) (rowIndirect y) (rowIncDecPair y) (rowInc y) (rowDec y) (rowLdImm y n) (rowAccumulator y)

/-- `x = 1`: LD r[y],r[z], with HALT in the place of LD (HL),(HL) (R112). -/
def rowLd (y z : BitVec 3) : Instr :=
  pick8 y
    (pick8 z .ldBB .ldBC .ldBD .ldBE .ldBH .ldBL .ldBAtHl .ldBA)
    (pick8 z .ldCB .ldCC .ldCD .ldCE .ldCH .ldCL .ldCAtHl .ldCA)
    (pick8 z .ldDB .ldDC .ldDD .ldDE .ldDH .ldDL .ldDAtHl .ldDA)
    (pick8 z .ldEB .ldEC .ldED .ldEE .ldEH .ldEL .ldEAtHl .ldEA)
    (pick8 z .ldHB .ldHC .ldHD .ldHE .ldHH .ldHL .ldHAtHl .ldHA)
    (pick8 z .ldLB .ldLC .ldLD .ldLE .ldLH .ldLL .ldLAtHl .ldLA)
    (pick8 z .ldAtHlB .ldAtHlC .ldAtHlD .ldAtHlE .ldAtHlH .ldAtHlL .halt .ldAtHlA)
    (pick8 z .ldAB .ldAC .ldAD .ldAE .ldAH .ldAL .ldAAtHl .ldAA)

/-- `x = 2`: `alu[y] A, r[z]` (R117). -/
def rowAlu (y z : BitVec 3) : Instr :=
  pick8 y
    (pick8 z .addAB .addAC .addAD .addAE .addAH .addAL .addAAtHl .addAA)
    (pick8 z .adcAB .adcAC .adcAD .adcAE .adcAH .adcAL .adcAAtHl .adcAA)
    (pick8 z .subB .subC .subD .subE .subH .subL .subAtHl .subA)
    (pick8 z .sbcAB .sbcAC .sbcAD .sbcAE .sbcAH .sbcAL .sbcAAtHl .sbcAA)
    (pick8 z .andB .andC .andD .andE .andH .andL .andAtHl .andA)
    (pick8 z .xorB .xorC .xorD .xorE .xorH .xorL .xorAtHl .xorA)
    (pick8 z .orB .orC .orD .orE .orH .orL .orAtHl .orA)
    (pick8 z .cpB .cpC .cpD .cpE .cpH .cpL .cpAtHl .cpA)

/-- `x = 3, z = 0`: RET cc, the high-page moves, ADD SP,e8 and LD HL,SP+e8. -/
def rowRetCond (y : BitVec 3) (n : Byte) : Instr :=
  pick8 y .retNz .retZ .retNc .retC (.ldhAtN8A n) (.addSpE8 n) (.ldhAAtN8 n) (.ldHlSpE8 n)

/-- `x = 3, z = 1`: `q = 0` POP rr (R115); `q = 1` RET, RETI, JP HL, LD SP,HL. -/
def rowPop (y : BitVec 3) : Instr := pick8 y .popBc .ret .popDe .reti .popHl .jpHl .popAf .ldSpHl

/-- `x = 3, z = 2`: JP cc,nn and the moves through (FF00+C) and (nn). -/
def rowJpCond (y : BitVec 3) (nn : Word) : Instr :=
  pick8 y (.jpNzNn nn) (.jpZNn nn) (.jpNcNn nn) (.jpCNn nn) .ldAtCA (.ldAtNnA nn) .ldAAtC (.ldAAtNn nn)

/-- `x = 3, z = 3`: JP nn, the CB page, DI, EI, and four illegal opcodes (R125). -/
def rowJpDiEi (y : BitVec 3) (cb : Byte) (nn : Word) : Instr :=
  pick8 y (.jpNn nn) (cbRow cb) .illegalD3 .illegalDB .illegalE3 .illegalEB .di .ei

/-- `x = 3, z = 4`: CALL cc,nn and four illegal opcodes (R125). -/
def rowCallCond (y : BitVec 3) (nn : Word) : Instr :=
  pick8 y (.callNzNn nn) (.callZNn nn) (.callNcNn nn) (.callCNn nn) .illegalE4 .illegalEC .illegalF4 .illegalFC

/-- `x = 3, z = 5`: `q = 0` PUSH rr (R115); `q = 1` CALL nn and three illegal opcodes (R125). -/
def rowPush (y : BitVec 3) (nn : Word) : Instr :=
  pick8 y .pushBc (.callNn nn) .pushDe .illegalDD .pushHl .illegalED .pushAf .illegalFD

/-- `x = 3, z = 6`: `alu[y] A, n8` (R117). -/
def rowAluImm (y : BitVec 3) (n : Byte) : Instr :=
  pick8 y (.addAN8 n) (.adcAN8 n) (.subN8 n) (.sbcAN8 n) (.andN8 n) (.xorN8 n) (.orN8 n) (.cpN8 n)

/-- `x = 3, z = 7`: RST 8·y (R306). -/
def rowRst (y : BitVec 3) : Instr := pick8 y .rst00 .rst08 .rst10 .rst18 .rst20 .rst28 .rst30 .rst38

/-- `x = 3` (R112). -/
def rowX3 (y z : BitVec 3) (n : Byte) (nn : Word) : Instr :=
  pick8 z (rowRetCond y n) (rowPop y) (rowJpCond y nn) (rowJpDiEi y n nn) (rowCallCond y nn) (rowPush y nn) (rowAluImm y n) (rowRst y)

/-- The instruction of an opcode byte and the two bytes after it, of which it uses what its form needs (R122). Total: an
undefined encoding is an instruction of its own name (R125, R126), which raises DecodeFatal. -/
def decodeAt (op b1 b2 : Byte) : Instr :=
  pick4 (fieldX op) (rowX0 (fieldY op) (fieldZ op) b1 (wordOfBytes b1 b2)) (rowLd (fieldY op) (fieldZ op))
    (rowAlu (fieldY op) (fieldZ op)) (rowX3 (fieldY op) (fieldZ op) b1 (wordOfBytes b1 b2))

/-! ## Lengths (R110, the grid of R123) -/

/-- The length of a cell of the primary grid, in bytes (R123). The cell 0xCB, `PREFIX CB`, counts one. -/
def primaryLength (op : Byte) : Nat :=
  pick4 (fieldX op)
    (pick8 (fieldZ op) (pick8 (fieldY op) 1 3 2 2 2 2 2 2) (pick8 (fieldY op) 3 1 3 1 3 1 3 1) 1 1 1 1 2 1)
    1
    1
    (pick8 (fieldZ op) (pick8 (fieldY op) 1 1 1 1 2 2 2 2) 1 (pick8 (fieldY op) 3 3 3 3 1 3 1 3) (pick8 (fieldY op) 3 1 1 1 1 1 1 1)
      (pick8 (fieldY op) 3 3 3 3 1 1 1 1) (pick8 (fieldY op) 1 3 1 1 1 1 1 1) 2 1)

/-- The length of an instruction by its opcode byte: the grid's, and two for 0xCB (R110). -/
def instrLength (op : Byte) : Nat := if op = 0xCB then 2 else primaryLength op

/-! ## The decoder on a byte sequence -/

/-- Why a byte sequence names no instruction: it ends before the instruction does. -/
inductive DecodeError where
  /-- There is no byte. -/
  | noByte
  /-- The opcode needs more bytes than there are. -/
  | truncated (op : Byte)
  deriving DecidableEq, Repr

/-- The first instruction of a byte sequence (R122). The byte 0xCB with nothing after it is the table's row `PREFIX CB`, the
instruction that still has its second byte to fetch (R315). -/
def decode (bytes : List Byte) : Except DecodeError Instr :=
  match bytes with
  | [] => .error .noByte
  | op :: rest =>
    if op = 0xCB && rest.isEmpty then .ok .prefixCb
    else if rest.length + 1 < instrLength op then .error (.truncated op)
    else .ok (decodeAt op (rest.getD 0 0x00) (rest.getD 1 0x00))

/-- The bytes, in fetch order, of a word that holds `nbits` of an instruction. R131 numbers a two-byte opcode (after 0xCB or
0x10) with its first byte most significant; any other word is read with its first byte in bits 7:0. -/
def tableBytes (nbits w : Nat) : List Byte :=
  let b0 : Byte := BitVec.ofNat 8 w
  let b1 : Byte := BitVec.ofNat 8 (w / 256)
  let b2 : Byte := BitVec.ofNat 8 (w / 65536)
  if nbits ≤ 8 then [b0]
  else if b1 = 0xCB || b1 = 0x10 then [b1, b0]
  else if nbits ≤ 16 then [b0, b1]
  else [b0, b1, b2]

/-- A byte sequence continued with bytes 0x00 to the length its opcode has in the grid. -/
def padInstr (bytes : List Byte) : List Byte :=
  bytes ++ List.replicate (primaryLength (bytes.getD 0 0x00) - bytes.length) 0x00

/-- The instruction this decoder reads from a table word (`fixed` bits numbered as the table numbers them). -/
def decodeTableWord (nbits w : Nat) : Option Instr :=
  match decode (padInstr (tableBytes nbits w)) with
  | .ok i => some i
  | .error _ => none

/-! ## The encoder -/

/-- The bytes of an instruction in fetch order, row by row of spec/opcode_table.json (R131): its opcode bytes, then its
immediates, a 16-bit one low byte first (R121). -/
def encode (i : Instr) : List Byte :=
  match i with
  | .nop => [0x00]
  | .ldBcNn nn => [0x01, loByte nn, hiByte nn]
  | .ldAtBcA => [0x02]
  | .incBc => [0x03]
  | .incB => [0x04]
  | .decB => [0x05]
  | .ldBN8 n => [0x06, n]
  | .rlca => [0x07]
  | .ldAtNnSp nn => [0x08, loByte nn, hiByte nn]
  | .addHlBc => [0x09]
  | .ldAAtBc => [0x0A]
  | .decBc => [0x0B]
  | .incC => [0x0C]
  | .decC => [0x0D]
  | .ldCN8 n => [0x0E, n]
  | .rrca => [0x0F]
  | .stop => [0x10, 0x00]
  | .illegalStop b => [0x10, b]
  | .ldDeNn nn => [0x11, loByte nn, hiByte nn]
  | .ldAtDeA => [0x12]
  | .incDe => [0x13]
  | .incD => [0x14]
  | .decD => [0x15]
  | .ldDN8 n => [0x16, n]
  | .rla => [0x17]
  | .jrE8 e => [0x18, e]
  | .addHlDe => [0x19]
  | .ldAAtDe => [0x1A]
  | .decDe => [0x1B]
  | .incE => [0x1C]
  | .decE => [0x1D]
  | .ldEN8 n => [0x1E, n]
  | .rra => [0x1F]
  | .jrNzE8 e => [0x20, e]
  | .ldHlNn nn => [0x21, loByte nn, hiByte nn]
  | .ldAtHlIncA => [0x22]
  | .incHl => [0x23]
  | .incH => [0x24]
  | .decH => [0x25]
  | .ldHN8 n => [0x26, n]
  | .daa => [0x27]
  | .jrZE8 e => [0x28, e]
  | .addHlHl => [0x29]
  | .ldAAtHlInc => [0x2A]
  | .decHl => [0x2B]
  | .incL => [0x2C]
  | .decL => [0x2D]
  | .ldLN8 n => [0x2E, n]
  | .cpl => [0x2F]
  | .jrNcE8 e => [0x30, e]
  | .ldSpNn nn => [0x31, loByte nn, hiByte nn]
  | .ldAtHlDecA => [0x32]
  | .incSp => [0x33]
  | .incAtHl => [0x34]
  | .decAtHl => [0x35]
  | .ldAtHlN8 n => [0x36, n]
  | .scf => [0x37]
  | .jrCE8 e => [0x38, e]
  | .addHlSp => [0x39]
  | .ldAAtHlDec => [0x3A]
  | .decSp => [0x3B]
  | .incA => [0x3C]
  | .decA => [0x3D]
  | .ldAN8 n => [0x3E, n]
  | .ccf => [0x3F]
  | .ldBB => [0x40]
  | .ldBC => [0x41]
  | .ldBD => [0x42]
  | .ldBE => [0x43]
  | .ldBH => [0x44]
  | .ldBL => [0x45]
  | .ldBAtHl => [0x46]
  | .ldBA => [0x47]
  | .ldCB => [0x48]
  | .ldCC => [0x49]
  | .ldCD => [0x4A]
  | .ldCE => [0x4B]
  | .ldCH => [0x4C]
  | .ldCL => [0x4D]
  | .ldCAtHl => [0x4E]
  | .ldCA => [0x4F]
  | .ldDB => [0x50]
  | .ldDC => [0x51]
  | .ldDD => [0x52]
  | .ldDE => [0x53]
  | .ldDH => [0x54]
  | .ldDL => [0x55]
  | .ldDAtHl => [0x56]
  | .ldDA => [0x57]
  | .ldEB => [0x58]
  | .ldEC => [0x59]
  | .ldED => [0x5A]
  | .ldEE => [0x5B]
  | .ldEH => [0x5C]
  | .ldEL => [0x5D]
  | .ldEAtHl => [0x5E]
  | .ldEA => [0x5F]
  | .ldHB => [0x60]
  | .ldHC => [0x61]
  | .ldHD => [0x62]
  | .ldHE => [0x63]
  | .ldHH => [0x64]
  | .ldHL => [0x65]
  | .ldHAtHl => [0x66]
  | .ldHA => [0x67]
  | .ldLB => [0x68]
  | .ldLC => [0x69]
  | .ldLD => [0x6A]
  | .ldLE => [0x6B]
  | .ldLH => [0x6C]
  | .ldLL => [0x6D]
  | .ldLAtHl => [0x6E]
  | .ldLA => [0x6F]
  | .ldAtHlB => [0x70]
  | .ldAtHlC => [0x71]
  | .ldAtHlD => [0x72]
  | .ldAtHlE => [0x73]
  | .ldAtHlH => [0x74]
  | .ldAtHlL => [0x75]
  | .halt => [0x76]
  | .ldAtHlA => [0x77]
  | .ldAB => [0x78]
  | .ldAC => [0x79]
  | .ldAD => [0x7A]
  | .ldAE => [0x7B]
  | .ldAH => [0x7C]
  | .ldAL => [0x7D]
  | .ldAAtHl => [0x7E]
  | .ldAA => [0x7F]
  | .addAB => [0x80]
  | .addAC => [0x81]
  | .addAD => [0x82]
  | .addAE => [0x83]
  | .addAH => [0x84]
  | .addAL => [0x85]
  | .addAAtHl => [0x86]
  | .addAA => [0x87]
  | .adcAB => [0x88]
  | .adcAC => [0x89]
  | .adcAD => [0x8A]
  | .adcAE => [0x8B]
  | .adcAH => [0x8C]
  | .adcAL => [0x8D]
  | .adcAAtHl => [0x8E]
  | .adcAA => [0x8F]
  | .subB => [0x90]
  | .subC => [0x91]
  | .subD => [0x92]
  | .subE => [0x93]
  | .subH => [0x94]
  | .subL => [0x95]
  | .subAtHl => [0x96]
  | .subA => [0x97]
  | .sbcAB => [0x98]
  | .sbcAC => [0x99]
  | .sbcAD => [0x9A]
  | .sbcAE => [0x9B]
  | .sbcAH => [0x9C]
  | .sbcAL => [0x9D]
  | .sbcAAtHl => [0x9E]
  | .sbcAA => [0x9F]
  | .andB => [0xA0]
  | .andC => [0xA1]
  | .andD => [0xA2]
  | .andE => [0xA3]
  | .andH => [0xA4]
  | .andL => [0xA5]
  | .andAtHl => [0xA6]
  | .andA => [0xA7]
  | .xorB => [0xA8]
  | .xorC => [0xA9]
  | .xorD => [0xAA]
  | .xorE => [0xAB]
  | .xorH => [0xAC]
  | .xorL => [0xAD]
  | .xorAtHl => [0xAE]
  | .xorA => [0xAF]
  | .orB => [0xB0]
  | .orC => [0xB1]
  | .orD => [0xB2]
  | .orE => [0xB3]
  | .orH => [0xB4]
  | .orL => [0xB5]
  | .orAtHl => [0xB6]
  | .orA => [0xB7]
  | .cpB => [0xB8]
  | .cpC => [0xB9]
  | .cpD => [0xBA]
  | .cpE => [0xBB]
  | .cpH => [0xBC]
  | .cpL => [0xBD]
  | .cpAtHl => [0xBE]
  | .cpA => [0xBF]
  | .retNz => [0xC0]
  | .popBc => [0xC1]
  | .jpNzNn nn => [0xC2, loByte nn, hiByte nn]
  | .jpNn nn => [0xC3, loByte nn, hiByte nn]
  | .callNzNn nn => [0xC4, loByte nn, hiByte nn]
  | .pushBc => [0xC5]
  | .addAN8 n => [0xC6, n]
  | .rst00 => [0xC7]
  | .retZ => [0xC8]
  | .ret => [0xC9]
  | .jpZNn nn => [0xCA, loByte nn, hiByte nn]
  | .prefixCb => [0xCB]
  | .callZNn nn => [0xCC, loByte nn, hiByte nn]
  | .callNn nn => [0xCD, loByte nn, hiByte nn]
  | .adcAN8 n => [0xCE, n]
  | .rst08 => [0xCF]
  | .retNc => [0xD0]
  | .popDe => [0xD1]
  | .jpNcNn nn => [0xD2, loByte nn, hiByte nn]
  | .illegalD3 => [0xD3]
  | .callNcNn nn => [0xD4, loByte nn, hiByte nn]
  | .pushDe => [0xD5]
  | .subN8 n => [0xD6, n]
  | .rst10 => [0xD7]
  | .retC => [0xD8]
  | .reti => [0xD9]
  | .jpCNn nn => [0xDA, loByte nn, hiByte nn]
  | .illegalDB => [0xDB]
  | .callCNn nn => [0xDC, loByte nn, hiByte nn]
  | .illegalDD => [0xDD]
  | .sbcAN8 n => [0xDE, n]
  | .rst18 => [0xDF]
  | .ldhAtN8A n => [0xE0, n]
  | .popHl => [0xE1]
  | .ldAtCA => [0xE2]
  | .illegalE3 => [0xE3]
  | .illegalE4 => [0xE4]
  | .pushHl => [0xE5]
  | .andN8 n => [0xE6, n]
  | .rst20 => [0xE7]
  | .addSpE8 e => [0xE8, e]
  | .jpHl => [0xE9]
  | .ldAtNnA nn => [0xEA, loByte nn, hiByte nn]
  | .illegalEB => [0xEB]
  | .illegalEC => [0xEC]
  | .illegalED => [0xED]
  | .xorN8 n => [0xEE, n]
  | .rst28 => [0xEF]
  | .ldhAAtN8 n => [0xF0, n]
  | .popAf => [0xF1]
  | .ldAAtC => [0xF2]
  | .di => [0xF3]
  | .illegalF4 => [0xF4]
  | .pushAf => [0xF5]
  | .orN8 n => [0xF6, n]
  | .rst30 => [0xF7]
  | .ldHlSpE8 e => [0xF8, e]
  | .ldSpHl => [0xF9]
  | .ldAAtNn nn => [0xFA, loByte nn, hiByte nn]
  | .ei => [0xFB]
  | .illegalFC => [0xFC]
  | .illegalFD => [0xFD]
  | .cpN8 n => [0xFE, n]
  | .rst38 => [0xFF]
  | .rlcB => [0xCB, 0x00]
  | .rlcC => [0xCB, 0x01]
  | .rlcD => [0xCB, 0x02]
  | .rlcE => [0xCB, 0x03]
  | .rlcH => [0xCB, 0x04]
  | .rlcL => [0xCB, 0x05]
  | .rlcAtHl => [0xCB, 0x06]
  | .rlcA => [0xCB, 0x07]
  | .rrcB => [0xCB, 0x08]
  | .rrcC => [0xCB, 0x09]
  | .rrcD => [0xCB, 0x0A]
  | .rrcE => [0xCB, 0x0B]
  | .rrcH => [0xCB, 0x0C]
  | .rrcL => [0xCB, 0x0D]
  | .rrcAtHl => [0xCB, 0x0E]
  | .rrcA => [0xCB, 0x0F]
  | .rlB => [0xCB, 0x10]
  | .rlC => [0xCB, 0x11]
  | .rlD => [0xCB, 0x12]
  | .rlE => [0xCB, 0x13]
  | .rlH => [0xCB, 0x14]
  | .rlL => [0xCB, 0x15]
  | .rlAtHl => [0xCB, 0x16]
  | .rlA => [0xCB, 0x17]
  | .rrB => [0xCB, 0x18]
  | .rrC => [0xCB, 0x19]
  | .rrD => [0xCB, 0x1A]
  | .rrE => [0xCB, 0x1B]
  | .rrH => [0xCB, 0x1C]
  | .rrL => [0xCB, 0x1D]
  | .rrAtHl => [0xCB, 0x1E]
  | .rrA => [0xCB, 0x1F]
  | .slaB => [0xCB, 0x20]
  | .slaC => [0xCB, 0x21]
  | .slaD => [0xCB, 0x22]
  | .slaE => [0xCB, 0x23]
  | .slaH => [0xCB, 0x24]
  | .slaL => [0xCB, 0x25]
  | .slaAtHl => [0xCB, 0x26]
  | .slaA => [0xCB, 0x27]
  | .sraB => [0xCB, 0x28]
  | .sraC => [0xCB, 0x29]
  | .sraD => [0xCB, 0x2A]
  | .sraE => [0xCB, 0x2B]
  | .sraH => [0xCB, 0x2C]
  | .sraL => [0xCB, 0x2D]
  | .sraAtHl => [0xCB, 0x2E]
  | .sraA => [0xCB, 0x2F]
  | .swapB => [0xCB, 0x30]
  | .swapC => [0xCB, 0x31]
  | .swapD => [0xCB, 0x32]
  | .swapE => [0xCB, 0x33]
  | .swapH => [0xCB, 0x34]
  | .swapL => [0xCB, 0x35]
  | .swapAtHl => [0xCB, 0x36]
  | .swapA => [0xCB, 0x37]
  | .srlB => [0xCB, 0x38]
  | .srlC => [0xCB, 0x39]
  | .srlD => [0xCB, 0x3A]
  | .srlE => [0xCB, 0x3B]
  | .srlH => [0xCB, 0x3C]
  | .srlL => [0xCB, 0x3D]
  | .srlAtHl => [0xCB, 0x3E]
  | .srlA => [0xCB, 0x3F]
  | .bit0B => [0xCB, 0x40]
  | .bit0C => [0xCB, 0x41]
  | .bit0D => [0xCB, 0x42]
  | .bit0E => [0xCB, 0x43]
  | .bit0H => [0xCB, 0x44]
  | .bit0L => [0xCB, 0x45]
  | .bit0AtHl => [0xCB, 0x46]
  | .bit0A => [0xCB, 0x47]
  | .bit1B => [0xCB, 0x48]
  | .bit1C => [0xCB, 0x49]
  | .bit1D => [0xCB, 0x4A]
  | .bit1E => [0xCB, 0x4B]
  | .bit1H => [0xCB, 0x4C]
  | .bit1L => [0xCB, 0x4D]
  | .bit1AtHl => [0xCB, 0x4E]
  | .bit1A => [0xCB, 0x4F]
  | .bit2B => [0xCB, 0x50]
  | .bit2C => [0xCB, 0x51]
  | .bit2D => [0xCB, 0x52]
  | .bit2E => [0xCB, 0x53]
  | .bit2H => [0xCB, 0x54]
  | .bit2L => [0xCB, 0x55]
  | .bit2AtHl => [0xCB, 0x56]
  | .bit2A => [0xCB, 0x57]
  | .bit3B => [0xCB, 0x58]
  | .bit3C => [0xCB, 0x59]
  | .bit3D => [0xCB, 0x5A]
  | .bit3E => [0xCB, 0x5B]
  | .bit3H => [0xCB, 0x5C]
  | .bit3L => [0xCB, 0x5D]
  | .bit3AtHl => [0xCB, 0x5E]
  | .bit3A => [0xCB, 0x5F]
  | .bit4B => [0xCB, 0x60]
  | .bit4C => [0xCB, 0x61]
  | .bit4D => [0xCB, 0x62]
  | .bit4E => [0xCB, 0x63]
  | .bit4H => [0xCB, 0x64]
  | .bit4L => [0xCB, 0x65]
  | .bit4AtHl => [0xCB, 0x66]
  | .bit4A => [0xCB, 0x67]
  | .bit5B => [0xCB, 0x68]
  | .bit5C => [0xCB, 0x69]
  | .bit5D => [0xCB, 0x6A]
  | .bit5E => [0xCB, 0x6B]
  | .bit5H => [0xCB, 0x6C]
  | .bit5L => [0xCB, 0x6D]
  | .bit5AtHl => [0xCB, 0x6E]
  | .bit5A => [0xCB, 0x6F]
  | .bit6B => [0xCB, 0x70]
  | .bit6C => [0xCB, 0x71]
  | .bit6D => [0xCB, 0x72]
  | .bit6E => [0xCB, 0x73]
  | .bit6H => [0xCB, 0x74]
  | .bit6L => [0xCB, 0x75]
  | .bit6AtHl => [0xCB, 0x76]
  | .bit6A => [0xCB, 0x77]
  | .bit7B => [0xCB, 0x78]
  | .bit7C => [0xCB, 0x79]
  | .bit7D => [0xCB, 0x7A]
  | .bit7E => [0xCB, 0x7B]
  | .bit7H => [0xCB, 0x7C]
  | .bit7L => [0xCB, 0x7D]
  | .bit7AtHl => [0xCB, 0x7E]
  | .bit7A => [0xCB, 0x7F]
  | .res0B => [0xCB, 0x80]
  | .res0C => [0xCB, 0x81]
  | .res0D => [0xCB, 0x82]
  | .res0E => [0xCB, 0x83]
  | .res0H => [0xCB, 0x84]
  | .res0L => [0xCB, 0x85]
  | .res0AtHl => [0xCB, 0x86]
  | .res0A => [0xCB, 0x87]
  | .res1B => [0xCB, 0x88]
  | .res1C => [0xCB, 0x89]
  | .res1D => [0xCB, 0x8A]
  | .res1E => [0xCB, 0x8B]
  | .res1H => [0xCB, 0x8C]
  | .res1L => [0xCB, 0x8D]
  | .res1AtHl => [0xCB, 0x8E]
  | .res1A => [0xCB, 0x8F]
  | .res2B => [0xCB, 0x90]
  | .res2C => [0xCB, 0x91]
  | .res2D => [0xCB, 0x92]
  | .res2E => [0xCB, 0x93]
  | .res2H => [0xCB, 0x94]
  | .res2L => [0xCB, 0x95]
  | .res2AtHl => [0xCB, 0x96]
  | .res2A => [0xCB, 0x97]
  | .res3B => [0xCB, 0x98]
  | .res3C => [0xCB, 0x99]
  | .res3D => [0xCB, 0x9A]
  | .res3E => [0xCB, 0x9B]
  | .res3H => [0xCB, 0x9C]
  | .res3L => [0xCB, 0x9D]
  | .res3AtHl => [0xCB, 0x9E]
  | .res3A => [0xCB, 0x9F]
  | .res4B => [0xCB, 0xA0]
  | .res4C => [0xCB, 0xA1]
  | .res4D => [0xCB, 0xA2]
  | .res4E => [0xCB, 0xA3]
  | .res4H => [0xCB, 0xA4]
  | .res4L => [0xCB, 0xA5]
  | .res4AtHl => [0xCB, 0xA6]
  | .res4A => [0xCB, 0xA7]
  | .res5B => [0xCB, 0xA8]
  | .res5C => [0xCB, 0xA9]
  | .res5D => [0xCB, 0xAA]
  | .res5E => [0xCB, 0xAB]
  | .res5H => [0xCB, 0xAC]
  | .res5L => [0xCB, 0xAD]
  | .res5AtHl => [0xCB, 0xAE]
  | .res5A => [0xCB, 0xAF]
  | .res6B => [0xCB, 0xB0]
  | .res6C => [0xCB, 0xB1]
  | .res6D => [0xCB, 0xB2]
  | .res6E => [0xCB, 0xB3]
  | .res6H => [0xCB, 0xB4]
  | .res6L => [0xCB, 0xB5]
  | .res6AtHl => [0xCB, 0xB6]
  | .res6A => [0xCB, 0xB7]
  | .res7B => [0xCB, 0xB8]
  | .res7C => [0xCB, 0xB9]
  | .res7D => [0xCB, 0xBA]
  | .res7E => [0xCB, 0xBB]
  | .res7H => [0xCB, 0xBC]
  | .res7L => [0xCB, 0xBD]
  | .res7AtHl => [0xCB, 0xBE]
  | .res7A => [0xCB, 0xBF]
  | .set0B => [0xCB, 0xC0]
  | .set0C => [0xCB, 0xC1]
  | .set0D => [0xCB, 0xC2]
  | .set0E => [0xCB, 0xC3]
  | .set0H => [0xCB, 0xC4]
  | .set0L => [0xCB, 0xC5]
  | .set0AtHl => [0xCB, 0xC6]
  | .set0A => [0xCB, 0xC7]
  | .set1B => [0xCB, 0xC8]
  | .set1C => [0xCB, 0xC9]
  | .set1D => [0xCB, 0xCA]
  | .set1E => [0xCB, 0xCB]
  | .set1H => [0xCB, 0xCC]
  | .set1L => [0xCB, 0xCD]
  | .set1AtHl => [0xCB, 0xCE]
  | .set1A => [0xCB, 0xCF]
  | .set2B => [0xCB, 0xD0]
  | .set2C => [0xCB, 0xD1]
  | .set2D => [0xCB, 0xD2]
  | .set2E => [0xCB, 0xD3]
  | .set2H => [0xCB, 0xD4]
  | .set2L => [0xCB, 0xD5]
  | .set2AtHl => [0xCB, 0xD6]
  | .set2A => [0xCB, 0xD7]
  | .set3B => [0xCB, 0xD8]
  | .set3C => [0xCB, 0xD9]
  | .set3D => [0xCB, 0xDA]
  | .set3E => [0xCB, 0xDB]
  | .set3H => [0xCB, 0xDC]
  | .set3L => [0xCB, 0xDD]
  | .set3AtHl => [0xCB, 0xDE]
  | .set3A => [0xCB, 0xDF]
  | .set4B => [0xCB, 0xE0]
  | .set4C => [0xCB, 0xE1]
  | .set4D => [0xCB, 0xE2]
  | .set4E => [0xCB, 0xE3]
  | .set4H => [0xCB, 0xE4]
  | .set4L => [0xCB, 0xE5]
  | .set4AtHl => [0xCB, 0xE6]
  | .set4A => [0xCB, 0xE7]
  | .set5B => [0xCB, 0xE8]
  | .set5C => [0xCB, 0xE9]
  | .set5D => [0xCB, 0xEA]
  | .set5E => [0xCB, 0xEB]
  | .set5H => [0xCB, 0xEC]
  | .set5L => [0xCB, 0xED]
  | .set5AtHl => [0xCB, 0xEE]
  | .set5A => [0xCB, 0xEF]
  | .set6B => [0xCB, 0xF0]
  | .set6C => [0xCB, 0xF1]
  | .set6D => [0xCB, 0xF2]
  | .set6E => [0xCB, 0xF3]
  | .set6H => [0xCB, 0xF4]
  | .set6L => [0xCB, 0xF5]
  | .set6AtHl => [0xCB, 0xF6]
  | .set6A => [0xCB, 0xF7]
  | .set7B => [0xCB, 0xF8]
  | .set7C => [0xCB, 0xF9]
  | .set7D => [0xCB, 0xFA]
  | .set7E => [0xCB, 0xFB]
  | .set7H => [0xCB, 0xFC]
  | .set7L => [0xCB, 0xFD]
  | .set7AtHl => [0xCB, 0xFE]
  | .set7A => [0xCB, 0xFF]

end Sys2Proof
end

