-- ==== Sys2Proof/Machine/State.lean ====
section
/-! DEFINITION. The machine state: the record of R52, as plain data, with the parameters of R8 that the running machine consults.
The processor's registers are grouped in `Regs` (R20); what the memory bus owns (R34 to R37) is grouped in `Bus`. -/

namespace Sys2Proof.Machine

/-- A byte array as the cells that differ from `Config.unlisted`, in rising order of index (`Memory.wf`, Machine/Ops.lean). The
internal array (R35), external RAM (R36), the ROM image (R34) and the serial ring (R32) are held so. -/
abbrev Memory := List Host.Cell

/-- The eight 8-bit registers (R20). The pairs are views of them (R21). -/
structure Regs where
  a : Byte
  /-- The flags, Z = 7, N = 6, H = 5, C = 4; every write path clears bits 3:0 (R22, R23). -/
  f : Byte
  b : Byte
  c : Byte
  d : Byte
  e : Byte
  h : Byte
  l : Byte
  deriving DecidableEq, Repr

/-- The record of a DecodeFatal (R340). `addr` is the address of the opcode byte. -/
inductive DecodeFatal where
  /-- One of the eleven undefined primary opcodes (R125, R316). -/
  | illegalOpcode (op : Byte) (addr : Word)
  /-- 0x10 followed by a byte other than 0x00 (R126). -/
  | illegalStop (b : Byte) (addr : Word)
  deriving DecidableEq, Repr

/-- The cartridge (R34): the ROM image, never written (R85), and the three header bytes the bus uses, already checked by R373, so
that every value of the type is a cartridge the machine accepts. -/
structure Cartridge where
  /-- The image, by ROM index. -/
  rom : Memory
  /-- `ROM[0x147]`. -/
  cartType : CartType
  /-- `ROM[0x148]`, 0..8. -/
  romCode : Fin 9
  /-- `ROM[0x149]`, 0..5. -/
  ramCode : Fin 6
  deriving DecidableEq, Repr

/-- The state of the memory bus. -/
structure Bus where
  /-- The cartridge (R34), read-only. -/
  cart : Cartridge
  /-- The internal array, indices 0x8000 to 0xFFFF, with the I/O registers and IE in it (R35, R40 to R49, 92 D34). -/
  mem : Memory
  /-- External RAM, indices below `RAM_SIZE` (R36). -/
  extRam : Memory
  /-- MBC1 control state (R37): five bits, never 0. -/
  romBankLo : BitVec 5
  /-- MBC1 control state (R37): two bits. -/
  romBankHi : BitVec 2
  /-- MBC1 control state (R37). -/
  ramEnabled : Bool
  /-- MBC1 control state (R37). -/
  bankingMode : Bool
  /-- The parameter `DISABLED_RAM_READ` (R8, R63). -/
  disabledRead : DisabledRead
  deriving DecidableEq, Repr

/-- The machine state (R52). -/
structure State where
  /-- A, F, B, C, D, E, H, L (R20). -/
  regs : Regs
  /-- The stack pointer (R25). -/
  sp : Word
  /-- The program counter (R26). -/
  pc : Word
  /-- Interrupt master enable (R27). -/
  ime : Bool
  /-- The halted flag (R28). -/
  halt : Bool
  /-- The M-cycles of the current step (R29). -/
  mCycle : Nat
  /-- The T-cycle counter, mod 2^16 (R30). -/
  sysCounter : BitVec 16
  /-- The instructions executed (R31). -/
  exeCounter : Nat
  /-- The serial ring, positions 0..254 (R32). -/
  serialBuffer : Memory
  /-- The ring's write position (R32). -/
  serialPos : Fin 255
  /-- `none`, or the DecodeFatal that stopped the machine for good (R33, R340). -/
  fault : Option DecodeFatal
  /-- The memory bus (R34 to R37). -/
  bus : Bus
  /-- The parameter `DISPATCH_MCYCLES` (R8, R328). -/
  dispatchCost : DispatchCost
  deriving DecidableEq, Repr

/-- The reasons for which `step` stops without a next state: none. The spec's one run-time error, DecodeFatal, is a state of the
machine (R33, R340): the field `State.fault`, with a step that returns its input (R320). So no one raises a `Fault`, and having no
constructor is safe. -/
inductive Fault where
  deriving DecidableEq, Repr

/-- The reasons for which an instruction has no meaning. -/
inductive Refusal where
  /-- Raised by `exec`'s arm of an instruction that has no meaning yet, with the mnemonic of spec/opcode_table.json; safe. No arm
  raises it: every row has its meaning. -/
  | notModelled (mnemonic : String)
  deriving DecidableEq, Repr

/-- What a meaning answers. -/
abbrev Result := Host.Outcome State Fault Refusal

/-! ## Reset (R53, R370) -/

/-- The parameters of R8 that reset takes besides the cartridge. The defaults are the parameter instances of 95_test_vectors.md
("Conventions for every vector"): DESIGN CHOICE (log 1, log 2, log 3), the spec leaves them open. -/
structure ResetParams where
  /-- `REG_INIT` (92 D1). -/
  regInit : Regs := ⟨0x00, 0x00, 0x00, 0x00, 0x00, 0x00, 0x00, 0x00⟩
  /-- `MEM_INIT` (92 D2). -/
  memInit : Memory := []
  /-- `EXTRAM_INIT` (92 D3). -/
  extRamInit : Memory := []
  /-- `SYS_COUNTER_INIT` (92 D5). -/
  sysCounterInit : BitVec 16 := 0x0000
  /-- `DISABLED_RAM_READ` (92 D8). -/
  disabledRead : DisabledRead := .xFF
  /-- `DISPATCH_MCYCLES` (92 D17). -/
  dispatchCost : DispatchCost := .three
  deriving DecidableEq, Repr

/-- The initial state of R53's table, for a cartridge and the open parameters. -/
def State.ofParams (cart : Cartridge) (p : ResetParams) : State where
  regs := ⟨p.regInit.a, p.regInit.f &&& 0xF0, p.regInit.b, p.regInit.c, p.regInit.d, p.regInit.e, p.regInit.h, p.regInit.l⟩
  sp := 0xFFFE
  pc := 0x0100
  ime := false
  halt := false
  mCycle := 0
  sysCounter := p.sysCounterInit
  exeCounter := 0
  serialBuffer := []
  serialPos := 0
  fault := none
  bus :=
    { cart := cart
      mem := p.memInit
      extRam := p.extRamInit
      romBankLo := 1
      romBankHi := 0
      ramEnabled := false
      bankingMode := false
      disabledRead := p.disabledRead }
  dispatchCost := p.dispatchCost

/-- DESIGN CHOICE (log 4): the cartridge of the reset state, the 32 KiB image of cartridge type 0x00 with every byte 0x00
(95_test_vectors.md, "Conventions for every vector"); its header bytes are the zeros of the image. -/
def Cartridge.blank : Cartridge := { rom := [], cartType := .romOnly, romCode := 0, ramCode := 0 }

/-- The machine right after reset (R53), for the blank cartridge and the default parameters. -/
def State.reset : State := State.ofParams Cartridge.blank {}

end Sys2Proof.Machine
end

