-- ==== Sys2Proof/Machine/Ops.lean ====
section
/-! DEFINITION. The named operations over memory, the bus, the registers and the stack (R10 to R12, R60 to R76), and the machine's one
exception entry, interrupt dispatch (R327), with the return from it (R305) and the fatal decode error (R340). -/

namespace Sys2Proof

/-! ## The parameters' and operand names' values -/

/-- The values of `ROM[0x147]` (R8, 92 D11). -/
def CartType.code : CartType → Byte
  | .romOnly => 0x00 | .mbc1 => 0x01 | .mbc1Ram => 0x02 | .mbc1RamBattery => 0x03 | .romRam => 0x08 | .romRamBattery => 0x09

/-- `MAPPER` (R8): MBC1 for 0x01, 0x02, 0x03 and NONE for 0x00, 0x08, 0x09. -/
def CartType.mapper : CartType → Mapper
  | .mbc1 | .mbc1Ram | .mbc1RamBattery => .mbc1
  | .romOnly | .romRam | .romRamBattery => .plain

/-- The value of `DISABLED_RAM_READ` (R8). -/
def DisabledRead.byte : DisabledRead → Byte
  | .x00 => 0x00
  | .xFF => 0xFF

/-- The pairs of R114 as 16-bit operands. -/
def Pair.reg16 : Pair → Reg16
  | .bc => .bc | .de => .de | .hl => .hl | .sp => .sp

/-- The pairs of R115 as 16-bit operands. -/
def StackPair.reg16 : StackPair → Reg16
  | .bc => .bc | .de => .de | .hl => .hl | .af => .af

namespace Machine

/-! ## Byte arrays -/

/-- The byte at an index. -/
def Memory.read (m : Memory) (i : Nat) : Byte :=
  match m with
  | [] => Config.unlisted
  | (k, v) :: rest => if k = i then v else Memory.read rest i

/-- The array with `v` at index `i`, in canonical form: a cell that holds `Config.unlisted` is not listed. -/
def Memory.write (m : Memory) (i : Nat) (v : Byte) : Memory :=
  match m with
  | [] => if v = Config.unlisted then [] else [(i, v)]
  | (k, w) :: rest =>
    if i < k then (if v = Config.unlisted then (k, w) :: rest else (i, v) :: (k, w) :: rest)
    else if i = k then (if v = Config.unlisted then rest else (i, v) :: rest)
    else (k, w) :: Memory.write rest i v

/-- The canonical form from index `lo` on: indices strictly rising, no cell equal to what an unlisted index reads as. -/
def Memory.wfFrom (lo : Nat) (m : Memory) : Bool :=
  match m with
  | [] => true
  | (k, v) :: rest => decide (lo ≤ k) && v != Config.unlisted && Memory.wfFrom (k + 1) rest

/-- The canonical form. -/
def Memory.wf (m : Memory) : Bool := Memory.wfFrom 0 m

/-- Every listed index lies in `lo ≤ i < hi`. -/
def Memory.within (lo hi : Nat) (m : Memory) : Bool := m.all fun cell => decide (lo ≤ cell.1) && decide (cell.1 < hi)

/-- The canonical array of a list of cells, a later cell of the same index winning; cells outside `lo ≤ i < hi` are left out. -/
def Memory.ofCells (lo hi : Nat) (cells : List Host.Cell) : Memory :=
  cells.foldl (fun m cell => if lo ≤ cell.1 ∧ cell.1 < hi then Memory.write m cell.1 cell.2 else m) []

/-! ## The cartridge (R8, R34, R64) -/

/-- `ROM_SIZE = 32768 << ROM[0x148]` (R8). -/
def romSizeOf (code : Nat) : Nat := 32768 <<< code

/-- `RAM_SIZE` by `ROM[0x149]`: 0,1→0; 2→8 KiB; 3→32 KiB; 4→128 KiB; 5→64 KiB (R8). -/
def ramSizeOf (code : Fin 6) : Nat :=
  match code with
  | 0 | 1 => 0
  | 2 => 8192
  | 3 => 32768
  | 4 => 131072
  | 5 => 65536

/-- `ROM_SIZE` (R8). -/
def Cartridge.romSize (c : Cartridge) : Nat := romSizeOf c.romCode.val

/-- `RAM_SIZE` (R8). -/
def Cartridge.ramSize (c : Cartridge) : Nat := ramSizeOf c.ramCode

/-- `MAPPER` (R8). -/
def Cartridge.mapper (c : Cartridge) : Mapper := c.cartType.mapper

/-- `RomByte(i) = ROM[i mod ROM_SIZE]` (R64). -/
def Cartridge.romByte (c : Cartridge) (i : Nat) : Byte := Memory.read c.rom (i % c.romSize)

/-! ## The bus (R60 to R76) -/

/-- `effective_rom_offset = (rom_bank_hi << 19) | (rom_bank_lo << 14)` (R38). -/
def Bus.effectiveRomOffset (b : Bus) : Nat := (b.romBankHi.toNat <<< 19) ||| (b.romBankLo.toNat <<< 14)

/-- `ram_bank_offset`: `rom_bank_hi << 13` in banking mode 1, else 0 (R39); 0 without a mapper (R63). -/
def Bus.ramBankOffset (b : Bus) : Nat :=
  match b.cart.mapper with
  | .mbc1 => if b.bankingMode then b.romBankHi.toNat <<< 13 else 0
  | .plain => 0

/-- `BankedRomIndex(addr)` (R65). -/
def Bus.bankedRomIndex (b : Bus) (addr : Nat) : Nat :=
  match b.cart.mapper with
  | .mbc1 => b.effectiveRomOffset ||| (addr - 0x4000)
  | .plain => addr

/-- `ExtRamEnabled` (R63). -/
def Bus.extRamEnabled (b : Bus) : Bool :=
  match b.cart.mapper with
  | .mbc1 => b.ramEnabled
  | .plain => true

/-- External RAM answers: it is enabled and its size is not 0 (R63, R73). -/
def Bus.extRamPresent (b : Bus) : Bool := b.extRamEnabled && b.cart.ramSize != 0

/-- The external RAM index of an address in 0xA000–0xBFFF (R63, R73). -/
def Bus.extRamIndex (b : Bus) (addr : Nat) : Nat := (b.ramBankOffset ||| (addr - 0xA000)) % b.cart.ramSize

/-- `ExtRamRead(addr)` (R63). -/
def Bus.extRamRead (b : Bus) (addr : Nat) : Byte :=
  if b.extRamPresent then Memory.read b.extRam (b.extRamIndex addr) else b.disabledRead.byte

/-- `ExtRamWrite(addr, v)` (R73). -/
def Bus.extRamWrite (b : Bus) (addr : Nat) (v : Byte) : Bus :=
  if b.extRamPresent then { b with extRam := Memory.write b.extRam (b.extRamIndex addr) v } else b

/-- `mem[i]` (R62). -/
def Bus.io (b : Bus) (i : Nat) : Byte := Memory.read b.mem i

/-- `mem[i] <- v`, a plain store with no side effect (R62). -/
def Bus.setIo (b : Bus) (i : Nat) (v : Byte) : Bus := { b with mem := Memory.write b.mem i v }

/-- `BusRead(addr)` (R60). No read changes any state. -/
def Bus.read (b : Bus) (addr : Word) : Byte :=
  let n := addr.toNat
  if n < 0x4000 then b.cart.romByte n
  else if n < 0x8000 then b.cart.romByte (b.bankedRomIndex n)
  else if n < 0xA000 then b.io n
  else if n < 0xC000 then b.extRamRead n
  else b.io n

/-- The first `n` bytes of the OAM copy, in ascending order, each read through the bus (R75). -/
def Bus.oamCopy (b : Bus) (page : Byte) (n : Nat) : Bus :=
  match n with
  | 0 => b
  | k + 1 =>
    let b' := b.oamCopy page k
    b'.setIo (0xFE00 + k) (b'.read (BitVec.ofNat 16 (page.toNat * 256 + k)))

/-- `Dma(v)` (R75): 160 bytes from `v << 8` to 0xFE00, then the store of `v` at 0xFF46. -/
def Bus.dma (b : Bus) (v : Byte) : Bus := (b.oamCopy v 160).setIo 0xFF46 v

/-- A write to 0x0000–0x7FFF with `MAPPER = MBC1` (R70, R71, R72, R74). -/
def Bus.mbc1Write (b : Bus) (n : Nat) (v : Byte) : Bus :=
  if n < 0x2000 then { b with ramEnabled := v &&& 0x0F == 0x0A }
  else if n < 0x4000 then { b with romBankLo := if v &&& 0x1F = 0x00 then 1 else v.extractLsb' 0 5 }
  else if n < 0x6000 then { b with romBankHi := v.extractLsb' 0 2 }
  else { b with bankingMode := v != 0x00 }

/-- A write to 0x0000–0x7FFF: MBC1 control, or no effect without a mapper (R61, R76). -/
def Bus.controlWrite (b : Bus) (n : Nat) (v : Byte) : Bus :=
  match b.cart.mapper with
  | .mbc1 => b.mbc1Write n v
  | .plain => b

/-- `BusWrite(addr, v)` (R61). -/
def Bus.write (b : Bus) (addr : Word) (v : Byte) : Bus :=
  let n := addr.toNat
  if n < 0x8000 then b.controlWrite n v
  else if n < 0xA000 then b.setIo n v
  else if n < 0xC000 then b.extRamWrite n v
  else if n = 0xFF46 then b.dma v
  else b.setIo n v

/-! ## Registers (R10, R20 to R23) -/

/-- `x[r]`. -/
def Regs.get (x : Regs) (r : Reg8) : Byte :=
  match r with
  | .b => x.b | .c => x.c | .d => x.d | .e => x.e | .h => x.h | .l => x.l | .a => x.a

/-- `x[r] <- v`. -/
def Regs.set (x : Regs) (r : Reg8) (v : Byte) : Regs :=
  match r with
  | .b => { x with b := v } | .c => { x with c := v } | .d => { x with d := v } | .e => { x with e := v }
  | .h => { x with h := v } | .l => { x with l := v } | .a => { x with a := v }

/-- `x[F] <- v`: the low nibble is stored as 0 on every write path (R22). -/
def Regs.setF (x : Regs) (v : Byte) : Regs := { x with f := v &&& 0xF0 }

/-- `x[r] <- v` on the machine. -/
def State.setReg (s : State) (r : Reg8) (v : Byte) : State := { s with regs := s.regs.set r v }

/-- `x[F] <- v` on the machine. -/
def State.setF (s : State) (v : Byte) : State := { s with regs := s.regs.setF v }

/-- The value of a 16-bit operand: a pair's view of its two halves (R21), or SP (R147). -/
def State.get16 (s : State) (r : Reg16) : Word :=
  match r with
  | .af => s.regs.a ++ s.regs.f
  | .bc => s.regs.b ++ s.regs.c
  | .de => s.regs.d ++ s.regs.e
  | .hl => s.regs.h ++ s.regs.l
  | .sp => s.sp

/-- Writing a 16-bit operand (R10, R21); a write of AF masks F (R22). -/
def State.set16 (s : State) (r : Reg16) (v : Word) : State :=
  match r with
  | .af => { s with regs := { s.regs with a := hiByte v, f := loByte v &&& 0xF0 } }
  | .bc => { s with regs := { s.regs with b := hiByte v, c := loByte v } }
  | .de => { s with regs := { s.regs with d := hiByte v, e := loByte v } }
  | .hl => { s with regs := { s.regs with h := hiByte v, l := loByte v } }
  | .sp => { s with sp := v }

/-- `x[HL]`. -/
def State.hl (s : State) : Word := s.get16 .hl

/-! ## Cycles, memory access, the stack (R11, R12) -/

/-- `n` M-cycles. -/
def State.ticks (s : State) (n : Nat) : State := { s with mCycle := s.mCycle + n }

/-- `internal()`: an M-cycle with no bus access (R11). -/
def State.internal (s : State) : State := s.ticks 1

/-- `MemRead(addr, 1)`: the byte, and the state after its tick (R11). -/
def State.memRead (s : State) (addr : Word) : Byte × State := (s.bus.read addr, s.ticks 1)

/-- `MemWrite(addr, 1, v)` (R11). -/
def State.memWrite (s : State) (addr : Word) (v : Byte) : State := { s with bus := s.bus.write addr v, mCycle := s.mCycle + 1 }

/-- `MemWrite(addr, 2, v)`: low byte first, at the lower address (R11, R67). -/
def State.memWrite16 (s : State) (addr : Word) (v : Word) : State :=
  (s.memWrite addr (loByte v)).memWrite (addr + 1) (hiByte v)

/-- `Fetch8()` (R11). -/
def State.fetch8 (s : State) : Byte × State := (s.bus.read s.pc, { s with pc := s.pc + 1, mCycle := s.mCycle + 1 })

/-- `n` calls of `Fetch8()`, less the bytes they return: PC past them and one M-cycle each (R11, R26). -/
def State.advance (s : State) (n : Nat) : State := { s with pc := s.pc + BitVec.ofNat 16 n, mCycle := s.mCycle + n }

/-- `Push16(v)`: the high byte at SP − 1 first, then the low byte at SP − 2 (R12, 92 D24). -/
def State.push16 (s : State) (v : Word) : State :=
  let s1 := { s with sp := s.sp - 1 }.memWrite (s.sp - 1) (hiByte v)
  { s1 with sp := s.sp - 2 }.memWrite (s.sp - 2) (loByte v)

/-- `Pop16()`: the low byte first (R12). -/
def State.pop16 (s : State) : Word × State :=
  (s.bus.read (s.sp + 1) ++ s.bus.read s.sp, { s with sp := s.sp + 2, mCycle := s.mCycle + 2 })

/-! ## The I/O registers the core uses (R40 to R48) -/

/-- SB, serial data (R40). -/
abbrev ioSB : Nat := 0xFF01
/-- SC, serial control (R41). -/
abbrev ioSC : Nat := 0xFF02
/-- DIV, divider (R42). -/
abbrev ioDIV : Nat := 0xFF04
/-- TIMA, timer counter (R43). -/
abbrev ioTIMA : Nat := 0xFF05
/-- TMA, timer modulo (R44). -/
abbrev ioTMA : Nat := 0xFF06
/-- TAC, timer control (R45). -/
abbrev ioTAC : Nat := 0xFF07
/-- IF, interrupt requests (R46). -/
abbrev ioIF : Nat := 0xFF0F
/-- DMA (R48). -/
abbrev ioDMA : Nat := 0xFF46
/-- IE, interrupt enables (R47). -/
abbrev ioIE : Nat := 0xFFFF

/-! ## Interrupt dispatch, the return from it, and DecodeFatal -/

/-- The vector of source `i` (R324): 0x40 + 8·i. -/
def interruptVector (i : Fin 5) : Word := BitVec.ofNat 16 (0x40 + 8 * i.val)

/-- A request cleared in IF: `IF & ~(1 << i) & 0xFF` (R327). -/
def clearRequest (flags : Byte) (i : Fin 5) : Byte := flags &&& ~~~((0x01 : Byte) <<< i.val)

/-- Dispatch of source `i` (R327): the request is cleared, IME and HALT are cleared, PC is pushed through the bus with no tick, and
PC takes the vector. The M-cycles it costs are the step's (R320, R328). -/
def State.takeInterrupt (s : State) (i : Fin 5) : State :=
  let b1 := s.bus.setIo ioIF (clearRequest (s.bus.io ioIF) i)
  let b2 := b1.write (s.sp - 1) (hiByte s.pc)
  let b3 := b2.write (s.sp - 2) (loByte s.pc)
  { s with bus := b3, sp := s.sp - 2, pc := interruptVector i, ime := false, halt := false }

/-- The body of RET (R303): pop PC, then one internal M-cycle. -/
def State.returnBody (s : State) : State :=
  let p := s.pop16
  { p.2.internal with pc := p.1 }

/-- The return from an interrupt (R305, R337): pop PC and enable interrupts. -/
def State.returnFromInterrupt (s : State) : State := { s.returnBody with ime := true }

/-- `raise DecodeFatal(info)` (R340): the fault is recorded and the state is otherwise as the fetches left it (R321). -/
def State.raise (s : State) (info : DecodeFatal) : State := { s with fault := some info }

/-- A host store between steps: a byte of the internal array, with none of the bus write's side effects (R347, 92 D30). -/
def State.hostStore (s : State) (addr : Word) (v : Byte) : State :=
  if 0x8000 ≤ addr.toNat then { s with bus := s.bus.setIo addr.toNat v } else s

end Machine

end Sys2Proof
end

