-- ==== Sys2Proof/Machine/Flags.lean ====
section
/-! DEFINITION. The ALU primitives (R140 to R144) and the flag computations of every instruction family (R146, and the Flags line of each
rule of files 43 to 46). All are pure functions except `State.setFlags`, the one operation that writes flags. -/

namespace Sys2Proof.Machine

/-! ## The flag byte (R22, R23, R146) -/

/-- `(z << 7) | (n << 6) | (h << 5) | (c << 4)`, bits 3:0 zero (R146). -/
def flagByte (z n h c : Bool) : Byte :=
  BitVec.ofBool z ++ BitVec.ofBool n ++ BitVec.ofBool h ++ BitVec.ofBool c ++ (0 : BitVec 4)

/-- Z, bit 7 of F (R23). -/
def Regs.flagZ (x : Regs) : Bool := x.f.getLsbD 7
/-- N, bit 6 of F (R23). -/
def Regs.flagN (x : Regs) : Bool := x.f.getLsbD 6
/-- H, bit 5 of F (R23). -/
def Regs.flagH (x : Regs) : Bool := x.f.getLsbD 5
/-- C, bit 4 of F (R23). -/
def Regs.flagC (x : Regs) : Bool := x.f.getLsbD 4

/-- `SetFlags(z, n, h, c)` on the registers (R146); `none` keeps the current bit. -/
def Regs.setFlags (x : Regs) (z n h c : Option Bool) : Regs :=
  x.setF (flagByte (z.getD x.flagZ) (n.getD x.flagN) (h.getD x.flagH) (c.getD x.flagC))

/-- `SetFlags(z, n, h, c)` (R146). -/
def State.setFlags (s : State) (z n h c : Option Bool) : State := { s with regs := s.regs.setFlags z n h c }

/-- `cond(cc)` (R153). -/
def condHolds (cc : Cond) (x : Regs) : Bool :=
  match cc with
  | .nz => !x.flagZ
  | .z => x.flagZ
  | .nc => !x.flagC
  | .c => x.flagC

/-! ## Addition and subtraction (R140 to R144) -/

/-- The result of an 8-bit primitive: result, carry, half. -/
structure Sum8 where
  res : Byte
  carry : Bool
  half : Bool
  deriving DecidableEq, Repr

/-- The result of a 16-bit primitive. -/
structure Sum16 where
  res : Word
  carry : Bool
  half : Bool
  deriving DecidableEq, Repr

/-- `add8` (R140). -/
def add8 (a b : Byte) : Sum8 :=
  { res := a + b, carry := decide (a.toNat + b.toNat ≥ 256), half := (a ^^^ b ^^^ (a + b)) &&& 0x10 != 0x00 }

/-- `sub8` (R141). -/
def sub8 (a b : Byte) : Sum8 :=
  { res := a - b, carry := decide (a.toNat < b.toNat), half := (a ^^^ b ^^^ (a - b)) &&& 0x10 != 0x00 }

/-- `add16` (R142). -/
def add16 (a b : Word) : Sum16 :=
  { res := a + b, carry := decide (a.toNat + b.toNat ≥ 65536), half := (a ^^^ b ^^^ (a + b)) &&& 0x1000 != 0x0000 }

/-- `add16_signed8` (R143): the sum with the sign-extended offset, the flags of the unsigned low-byte addition. -/
def add16Signed8 (base : Word) (off : Byte) : Sum16 :=
  { res := base + off.signExtend 16, carry := (add8 (loByte base) off).carry, half := (add8 (loByte base) off).half }

/-- A carry-in as a byte, 0 or 1 (R144). -/
def carryByte (c : Bool) : Byte := if c then 0x01 else 0x00

/-- `adc8` (R144): two stages, carry and half the OR of the stages'. -/
def adc8 (a b : Byte) (cin : Bool) : Sum8 :=
  let t := add8 a b
  let r := add8 t.res (carryByte cin)
  { res := r.res, carry := t.carry || r.carry, half := t.half || r.half }

/-- `sbc8` (R144). -/
def sbc8 (a b : Byte) (cin : Bool) : Sum8 :=
  let t := sub8 a b
  let r := sub8 t.res (carryByte cin)
  { res := r.res, carry := t.carry || r.carry, half := t.half || r.half }

/-! ## The accumulator operations (R210 to R234) -/

/-- What an accumulator operation gives: A's new value, and the four flags it writes. -/
structure AluOut where
  a : Byte
  z : Bool
  n : Bool
  h : Bool
  c : Bool
  deriving DecidableEq, Repr

/-- The result and flags of `alu[y] A, v` with carry `cin` (R211 to R234). CP gives A back (R232). -/
def aluEval (op : AluOp) (a v : Byte) (cin : Bool) : AluOut :=
  match op with
  | .add => let r := add8 a v; ⟨r.res, r.res == 0x00, false, r.half, r.carry⟩
  | .adc => let r := adc8 a v cin; ⟨r.res, r.res == 0x00, false, r.half, r.carry⟩
  | .sub => let r := sub8 a v; ⟨r.res, r.res == 0x00, true, r.half, r.carry⟩
  | .sbc => let r := sbc8 a v cin; ⟨r.res, r.res == 0x00, true, r.half, r.carry⟩
  | .and => ⟨a &&& v, a &&& v == 0x00, false, true, false⟩
  | .xor => ⟨a ^^^ v, a ^^^ v == 0x00, false, false, false⟩
  | .or => ⟨a ||| v, a ||| v == 0x00, false, false, false⟩
  | .cp => let r := sub8 a v; ⟨a, r.res == 0x00, true, r.half, r.carry⟩

/-- DAA's new A and C (R239); both tests of the addition branch see A as it was before DAA (92 D18). -/
def daaResult (a : Byte) (n h c : Bool) : Byte × Bool :=
  if n then
    (a - ((if h then 0x06 else 0x00) ||| (if c then 0x60 else 0x00)), c)
  else
    let low := h || decide ((a &&& 0x0F).toNat > 0x09)
    let high := c || decide (a.toNat > 0x99)
    (a + ((if low then 0x06 else 0x00) ||| (if high then 0x60 else 0x00)), high)

/-! ## Rotates, shifts and SWAP (R260 to R280) -/

/-- The byte with bit `i` set to `c` and the others 0. -/
def bitByte (c : Bool) (i : Nat) : Byte := carryByte c <<< i

/-- The result and the new C of a rotate or shift of `v` with carry `cin` (R265 to R279). -/
def shiftEval (op : ShiftOp) (v : Byte) (cin : Bool) : Byte × Bool :=
  match op with
  | .rlc => ((v <<< 1) ||| bitByte (v.getLsbD 7) 0, v.getLsbD 7)
  | .rrc => ((v >>> 1) ||| bitByte (v.getLsbD 0) 7, v.getLsbD 0)
  | .rl => ((v <<< 1) ||| bitByte cin 0, v.getLsbD 7)
  | .rr => ((v >>> 1) ||| bitByte cin 7, v.getLsbD 0)
  | .sla => (v <<< 1, v.getLsbD 7)
  | .sra => ((v >>> 1) ||| (v &&& 0x80), v.getLsbD 0)
  | .swap => (((v &&& 0x0F) <<< 4) ||| (v >>> 4), false)
  | .srl => (v >>> 1, v.getLsbD 0)

end Sys2Proof.Machine
end

