-- ==== Sys2Proof/Machine/Operands.lean ====
section
/-! DEFINITION. Operand access (R147 to R151), every operand form of the spec. An immediate operand carries the value that the
instruction's fetches returned: its fetches, and their M-cycles, are the step's (`State.advance`), and come before any other
access of the instruction (R149). -/

namespace Sys2Proof.Machine

/-- The 8-bit operands that can be read and written (R147). -/
inductive Operand8 where
  /-- A register. -/
  | reg (r : Reg8)
  /-- (BC). -/
  | atBc
  /-- (DE). -/
  | atDe
  /-- (HL). -/
  | atHl
  /-- (NN), its address already fetched. -/
  | atNn (a : Word)
  /-- (HL+). -/
  | atHlInc
  /-- (HL−). -/
  | atHlDec
  /-- (FF00+N), its byte already fetched. -/
  | highN (n : Byte)
  /-- (FF00+C). -/
  | highC
  deriving DecidableEq, Repr

/-- The 8-bit sources: an operand, or N, an immediate byte already fetched. -/
inductive Source8 where
  | operand (o : Operand8)
  | imm (n : Byte)
  deriving DecidableEq, Repr

/-- The address in the page 0xFF00 (R119). -/
def highAddr (n : Byte) : Word := (0xFF : Byte) ++ n

/-- Where an operand stands: in a register, or in the memory byte at an address. -/
inductive Place where
  | reg (r : Reg8)
  | mem (a : Word)
  deriving DecidableEq, Repr

/-- Where an operand stands in a state (R148, R149). `(HL+)` and `(HL−)` use the old `x[HL]` (R150). -/
def Operand8.place (o : Operand8) (s : State) : Place :=
  match o with
  | .reg r => .reg r
  | .atBc => .mem (s.get16 .bc)
  | .atDe => .mem (s.get16 .de)
  | .atHl | .atHlInc | .atHlDec => .mem s.hl
  | .atNn a => .mem a
  | .highN n => .mem (highAddr n)
  | .highC => .mem (highAddr s.regs.c)

/-- What an operand's access does to HL afterwards: `(HL+)` adds 1 and `(HL−)` subtracts 1, mod 2^16 (R150). -/
def Operand8.adjust (o : Operand8) (s : State) : State :=
  match o with
  | .atHlInc => s.set16 .hl (s.hl + 1)
  | .atHlDec => s.set16 .hl (s.hl - 1)
  | .reg _ | .atBc | .atDe | .atHl | .atNn _ | .highN _ | .highC => s

/-- `load8(op)` (R148): the byte and the state after the access. -/
def load8 (o : Operand8) (s : State) : Byte × State :=
  match o.place s with
  | .reg r => (s.regs.get r, s)
  | .mem a => ((s.memRead a).1, o.adjust (s.memRead a).2)

/-- `load8` of a source; an immediate has already been fetched and counted. -/
def loadSource8 (o : Source8) (s : State) : Byte × State :=
  match o with
  | .operand o => load8 o s
  | .imm n => (n, s)

/-- `store8(op, v)` (R149). -/
def store8 (o : Operand8) (v : Byte) (s : State) : State :=
  match o.place s with
  | .reg r => s.setReg r v
  | .mem a => o.adjust (s.memWrite a v)

/-- The 16-bit sources (R147, R151): a pair or SP, or NN, an immediate word already fetched. -/
inductive Source16 where
  | reg (r : Reg16)
  | imm (nn : Word)
  deriving DecidableEq, Repr

/-- The 16-bit destinations (R151): a pair or SP, or (NN), its address already fetched. -/
inductive Dest16 where
  | reg (r : Reg16)
  | atNn (a : Word)
  deriving DecidableEq, Repr

/-- `load16(op)` (R151). -/
def load16 (o : Source16) (s : State) : Word :=
  match o with
  | .reg r => s.get16 r
  | .imm nn => nn

/-- `store16(op, v)` (R151): to (NN) low byte first. -/
def store16 (o : Dest16) (v : Word) (s : State) : State :=
  match o with
  | .reg r => s.set16 r v
  | .atNn a => s.memWrite16 a v

end Sys2Proof.Machine
end

