-- ==== Sys2Proof/Machine/Alu16.lean ====
section
/-! DEFINITION. 16-bit arithmetic (44_alu16.md, R250 to R253). -/

namespace Sys2Proof.Machine

/-- `ADD HL,rr` (R250): N = 0, H and C out of bits 11 and 15, Z unchanged. -/
def addToHl (r : Reg16) (s : State) : State :=
  let t := add16 s.hl (s.get16 r)
  (s.internal.set16 .hl t.res).setFlags none (some false) (some t.half) (some t.carry)

/-- `INC rr` (R251): no flag. -/
def inc16 (r : Reg16) (s : State) : State := s.internal.set16 r (s.get16 r + 1)

/-- `DEC rr` (R252): no flag. -/
def dec16 (r : Reg16) (s : State) : State := s.internal.set16 r (s.get16 r - 1)

/-- `ADD SP,e8` (R253): two internal M-cycles; Z = N = 0, H and C of the low-byte addition. -/
def addToSp (off : Byte) (s : State) : State :=
  let r := add16Signed8 s.sp off
  (s.internal.internal.set16 .sp r.res).setFlags (some false) (some false) (some r.half) (some r.carry)

/-- R251: INC BC (0x03). -/
def execIncBc (s : State) : Result := .next (inc16 .bc s)

/-- R250: ADD HL,BC (0x09). -/
def execAddHlBc (s : State) : Result := .next (addToHl .bc s)

/-- R252: DEC BC (0x0B). -/
def execDecBc (s : State) : Result := .next (dec16 .bc s)

/-- R251: INC DE (0x13). -/
def execIncDe (s : State) : Result := .next (inc16 .de s)

/-- R250: ADD HL,DE (0x19). -/
def execAddHlDe (s : State) : Result := .next (addToHl .de s)

/-- R252: DEC DE (0x1B). -/
def execDecDe (s : State) : Result := .next (dec16 .de s)

/-- R251: INC HL (0x23). -/
def execIncHl (s : State) : Result := .next (inc16 .hl s)

/-- R250: ADD HL,HL (0x29). -/
def execAddHlHl (s : State) : Result := .next (addToHl .hl s)

/-- R252: DEC HL (0x2B). -/
def execDecHl (s : State) : Result := .next (dec16 .hl s)

/-- R251: INC SP (0x33). -/
def execIncSp (s : State) : Result := .next (inc16 .sp s)

/-- R250: ADD HL,SP (0x39). -/
def execAddHlSp (s : State) : Result := .next (addToHl .sp s)

/-- R252: DEC SP (0x3B). -/
def execDecSp (s : State) : Result := .next (dec16 .sp s)

/-- R253: ADD SP,e8 (0xE8). -/
def execAddSpE8 (e : Byte) (s : State) : Result := .next (addToSp e s)

end Sys2Proof.Machine
end

