-- ==== Sys2Proof/Machine/Alu8.lean ====
section
/-! DEFINITION. 8-bit arithmetic and logic (43_alu8.md, R210 to R242). -/

namespace Sys2Proof.Machine

/-- `alu[y] A,v` (R210): the source read, A and the four flags written; CP leaves A (R232). -/
def accumulate (op : AluOp) (src : Source8) (s : State) : State :=
  let p := loadSource8 src s
  let r := aluEval op p.2.regs.a p.1 p.2.regs.flagC
  (p.2.setReg .a r.a).setFlags (some r.z) (some r.n) (some r.h) (some r.c)

/-- `INC` of an 8-bit operand (R235, R236): Z and H of the addition, N = 0, C unchanged. -/
def inc8 (o : Operand8) (s : State) : State :=
  let p := load8 o s
  let r := add8 p.1 0x01
  (store8 o r.res p.2).setFlags (some (r.res == 0x00)) (some false) (some r.half) none

/-- `DEC` of an 8-bit operand (R237, R238): Z and H of the subtraction, N = 1, C unchanged. -/
def dec8 (o : Operand8) (s : State) : State :=
  let p := load8 o s
  let r := sub8 p.1 0x01
  (store8 o r.res p.2).setFlags (some (r.res == 0x00)) (some true) (some r.half) none

/-- `DAA` (R239): Z from the new A, N unchanged, H = 0, C as the correction leaves it. -/
def decimalAdjust (s : State) : State :=
  let r := daaResult s.regs.a s.regs.flagN s.regs.flagH s.regs.flagC
  (s.setReg .a r.1).setFlags (some (r.1 == 0x00)) none (some false) (some r.2)

/-- `CPL` (R240): N = H = 1, Z and C unchanged. -/
def complementA (s : State) : State := (s.setReg .a (~~~s.regs.a)).setFlags none (some true) (some true) none

/-- `SCF` (R241): N = H = 0, C = 1, Z unchanged. -/
def setCarryFlag (s : State) : State := s.setFlags none (some false) (some false) (some true)

/-- `CCF` (R242): N = H = 0, C inverted, Z unchanged. -/
def complementCarryFlag (s : State) : State := s.setFlags none (some false) (some false) (some !s.regs.flagC)

/-- R235: INC B (0x04). -/
def execIncB (s : State) : Result := .next (inc8 (.reg .b) s)

/-- R237: DEC B (0x05). -/
def execDecB (s : State) : Result := .next (dec8 (.reg .b) s)

/-- R235: INC C (0x0C). -/
def execIncC (s : State) : Result := .next (inc8 (.reg .c) s)

/-- R237: DEC C (0x0D). -/
def execDecC (s : State) : Result := .next (dec8 (.reg .c) s)

/-- R235: INC D (0x14). -/
def execIncD (s : State) : Result := .next (inc8 (.reg .d) s)

/-- R237: DEC D (0x15). -/
def execDecD (s : State) : Result := .next (dec8 (.reg .d) s)

/-- R235: INC E (0x1C). -/
def execIncE (s : State) : Result := .next (inc8 (.reg .e) s)

/-- R237: DEC E (0x1D). -/
def execDecE (s : State) : Result := .next (dec8 (.reg .e) s)

/-- R235: INC H (0x24). -/
def execIncH (s : State) : Result := .next (inc8 (.reg .h) s)

/-- R237: DEC H (0x25). -/
def execDecH (s : State) : Result := .next (dec8 (.reg .h) s)

/-- R239: DAA (0x27). -/
def execDaa (s : State) : Result := .next (decimalAdjust s)

/-- R235: INC L (0x2C). -/
def execIncL (s : State) : Result := .next (inc8 (.reg .l) s)

/-- R237: DEC L (0x2D). -/
def execDecL (s : State) : Result := .next (dec8 (.reg .l) s)

/-- R240: CPL (0x2F). -/
def execCpl (s : State) : Result := .next (complementA s)

/-- R236: INC (HL) (0x34). -/
def execIncAtHl (s : State) : Result := .next (inc8 .atHl s)

/-- R238: DEC (HL) (0x35). -/
def execDecAtHl (s : State) : Result := .next (dec8 .atHl s)

/-- R241: SCF (0x37). -/
def execScf (s : State) : Result := .next (setCarryFlag s)

/-- R235: INC A (0x3C). -/
def execIncA (s : State) : Result := .next (inc8 (.reg .a) s)

/-- R237: DEC A (0x3D). -/
def execDecA (s : State) : Result := .next (dec8 (.reg .a) s)

/-- R242: CCF (0x3F). -/
def execCcf (s : State) : Result := .next (complementCarryFlag s)

/-- R211: ADD A,B (0x80). -/
def execAddAB (s : State) : Result := .next (accumulate .add (.operand (.reg .b)) s)

/-- R211: ADD A,C (0x81). -/
def execAddAC (s : State) : Result := .next (accumulate .add (.operand (.reg .c)) s)

/-- R211: ADD A,D (0x82). -/
def execAddAD (s : State) : Result := .next (accumulate .add (.operand (.reg .d)) s)

/-- R211: ADD A,E (0x83). -/
def execAddAE (s : State) : Result := .next (accumulate .add (.operand (.reg .e)) s)

/-- R211: ADD A,H (0x84). -/
def execAddAH (s : State) : Result := .next (accumulate .add (.operand (.reg .h)) s)

/-- R211: ADD A,L (0x85). -/
def execAddAL (s : State) : Result := .next (accumulate .add (.operand (.reg .l)) s)

/-- R212: ADD A,(HL) (0x86). -/
def execAddAAtHl (s : State) : Result := .next (accumulate .add (.operand .atHl) s)

/-- R211: ADD A,A (0x87). -/
def execAddAA (s : State) : Result := .next (accumulate .add (.operand (.reg .a)) s)

/-- R214: ADC A,B (0x88). -/
def execAdcAB (s : State) : Result := .next (accumulate .adc (.operand (.reg .b)) s)

/-- R214: ADC A,C (0x89). -/
def execAdcAC (s : State) : Result := .next (accumulate .adc (.operand (.reg .c)) s)

/-- R214: ADC A,D (0x8A). -/
def execAdcAD (s : State) : Result := .next (accumulate .adc (.operand (.reg .d)) s)

/-- R214: ADC A,E (0x8B). -/
def execAdcAE (s : State) : Result := .next (accumulate .adc (.operand (.reg .e)) s)

/-- R214: ADC A,H (0x8C). -/
def execAdcAH (s : State) : Result := .next (accumulate .adc (.operand (.reg .h)) s)

/-- R214: ADC A,L (0x8D). -/
def execAdcAL (s : State) : Result := .next (accumulate .adc (.operand (.reg .l)) s)

/-- R215: ADC A,(HL) (0x8E). -/
def execAdcAAtHl (s : State) : Result := .next (accumulate .adc (.operand .atHl) s)

/-- R214: ADC A,A (0x8F). -/
def execAdcAA (s : State) : Result := .next (accumulate .adc (.operand (.reg .a)) s)

/-- R217: SUB B (0x90). -/
def execSubB (s : State) : Result := .next (accumulate .sub (.operand (.reg .b)) s)

/-- R217: SUB C (0x91). -/
def execSubC (s : State) : Result := .next (accumulate .sub (.operand (.reg .c)) s)

/-- R217: SUB D (0x92). -/
def execSubD (s : State) : Result := .next (accumulate .sub (.operand (.reg .d)) s)

/-- R217: SUB E (0x93). -/
def execSubE (s : State) : Result := .next (accumulate .sub (.operand (.reg .e)) s)

/-- R217: SUB H (0x94). -/
def execSubH (s : State) : Result := .next (accumulate .sub (.operand (.reg .h)) s)

/-- R217: SUB L (0x95). -/
def execSubL (s : State) : Result := .next (accumulate .sub (.operand (.reg .l)) s)

/-- R218: SUB (HL) (0x96). -/
def execSubAtHl (s : State) : Result := .next (accumulate .sub (.operand .atHl) s)

/-- R217: SUB A (0x97). -/
def execSubA (s : State) : Result := .next (accumulate .sub (.operand (.reg .a)) s)

/-- R220: SBC A,B (0x98). -/
def execSbcAB (s : State) : Result := .next (accumulate .sbc (.operand (.reg .b)) s)

/-- R220: SBC A,C (0x99). -/
def execSbcAC (s : State) : Result := .next (accumulate .sbc (.operand (.reg .c)) s)

/-- R220: SBC A,D (0x9A). -/
def execSbcAD (s : State) : Result := .next (accumulate .sbc (.operand (.reg .d)) s)

/-- R220: SBC A,E (0x9B). -/
def execSbcAE (s : State) : Result := .next (accumulate .sbc (.operand (.reg .e)) s)

/-- R220: SBC A,H (0x9C). -/
def execSbcAH (s : State) : Result := .next (accumulate .sbc (.operand (.reg .h)) s)

/-- R220: SBC A,L (0x9D). -/
def execSbcAL (s : State) : Result := .next (accumulate .sbc (.operand (.reg .l)) s)

/-- R221: SBC A,(HL) (0x9E). -/
def execSbcAAtHl (s : State) : Result := .next (accumulate .sbc (.operand .atHl) s)

/-- R220: SBC A,A (0x9F). -/
def execSbcAA (s : State) : Result := .next (accumulate .sbc (.operand (.reg .a)) s)

/-- R223: AND B (0xA0). -/
def execAndB (s : State) : Result := .next (accumulate .and (.operand (.reg .b)) s)

/-- R223: AND C (0xA1). -/
def execAndC (s : State) : Result := .next (accumulate .and (.operand (.reg .c)) s)

/-- R223: AND D (0xA2). -/
def execAndD (s : State) : Result := .next (accumulate .and (.operand (.reg .d)) s)

/-- R223: AND E (0xA3). -/
def execAndE (s : State) : Result := .next (accumulate .and (.operand (.reg .e)) s)

/-- R223: AND H (0xA4). -/
def execAndH (s : State) : Result := .next (accumulate .and (.operand (.reg .h)) s)

/-- R223: AND L (0xA5). -/
def execAndL (s : State) : Result := .next (accumulate .and (.operand (.reg .l)) s)

/-- R224: AND (HL) (0xA6). -/
def execAndAtHl (s : State) : Result := .next (accumulate .and (.operand .atHl) s)

/-- R223: AND A (0xA7). -/
def execAndA (s : State) : Result := .next (accumulate .and (.operand (.reg .a)) s)

/-- R226: XOR B (0xA8). -/
def execXorB (s : State) : Result := .next (accumulate .xor (.operand (.reg .b)) s)

/-- R226: XOR C (0xA9). -/
def execXorC (s : State) : Result := .next (accumulate .xor (.operand (.reg .c)) s)

/-- R226: XOR D (0xAA). -/
def execXorD (s : State) : Result := .next (accumulate .xor (.operand (.reg .d)) s)

/-- R226: XOR E (0xAB). -/
def execXorE (s : State) : Result := .next (accumulate .xor (.operand (.reg .e)) s)

/-- R226: XOR H (0xAC). -/
def execXorH (s : State) : Result := .next (accumulate .xor (.operand (.reg .h)) s)

/-- R226: XOR L (0xAD). -/
def execXorL (s : State) : Result := .next (accumulate .xor (.operand (.reg .l)) s)

/-- R227: XOR (HL) (0xAE). -/
def execXorAtHl (s : State) : Result := .next (accumulate .xor (.operand .atHl) s)

/-- R226: XOR A (0xAF). -/
def execXorA (s : State) : Result := .next (accumulate .xor (.operand (.reg .a)) s)

/-- R229: OR B (0xB0). -/
def execOrB (s : State) : Result := .next (accumulate .or (.operand (.reg .b)) s)

/-- R229: OR C (0xB1). -/
def execOrC (s : State) : Result := .next (accumulate .or (.operand (.reg .c)) s)

/-- R229: OR D (0xB2). -/
def execOrD (s : State) : Result := .next (accumulate .or (.operand (.reg .d)) s)

/-- R229: OR E (0xB3). -/
def execOrE (s : State) : Result := .next (accumulate .or (.operand (.reg .e)) s)

/-- R229: OR H (0xB4). -/
def execOrH (s : State) : Result := .next (accumulate .or (.operand (.reg .h)) s)

/-- R229: OR L (0xB5). -/
def execOrL (s : State) : Result := .next (accumulate .or (.operand (.reg .l)) s)

/-- R230: OR (HL) (0xB6). -/
def execOrAtHl (s : State) : Result := .next (accumulate .or (.operand .atHl) s)

/-- R229: OR A (0xB7). -/
def execOrA (s : State) : Result := .next (accumulate .or (.operand (.reg .a)) s)

/-- R232: CP B (0xB8). -/
def execCpB (s : State) : Result := .next (accumulate .cp (.operand (.reg .b)) s)

/-- R232: CP C (0xB9). -/
def execCpC (s : State) : Result := .next (accumulate .cp (.operand (.reg .c)) s)

/-- R232: CP D (0xBA). -/
def execCpD (s : State) : Result := .next (accumulate .cp (.operand (.reg .d)) s)

/-- R232: CP E (0xBB). -/
def execCpE (s : State) : Result := .next (accumulate .cp (.operand (.reg .e)) s)

/-- R232: CP H (0xBC). -/
def execCpH (s : State) : Result := .next (accumulate .cp (.operand (.reg .h)) s)

/-- R232: CP L (0xBD). -/
def execCpL (s : State) : Result := .next (accumulate .cp (.operand (.reg .l)) s)

/-- R233: CP (HL) (0xBE). -/
def execCpAtHl (s : State) : Result := .next (accumulate .cp (.operand .atHl) s)

/-- R232: CP A (0xBF). -/
def execCpA (s : State) : Result := .next (accumulate .cp (.operand (.reg .a)) s)

/-- R213: ADD A,n8 (0xC6). -/
def execAddAN8 (n : Byte) (s : State) : Result := .next (accumulate .add (.imm n) s)

/-- R216: ADC A,n8 (0xCE). -/
def execAdcAN8 (n : Byte) (s : State) : Result := .next (accumulate .adc (.imm n) s)

/-- R219: SUB n8 (0xD6). -/
def execSubN8 (n : Byte) (s : State) : Result := .next (accumulate .sub (.imm n) s)

/-- R222: SBC A,n8 (0xDE). -/
def execSbcAN8 (n : Byte) (s : State) : Result := .next (accumulate .sbc (.imm n) s)

/-- R225: AND n8 (0xE6). -/
def execAndN8 (n : Byte) (s : State) : Result := .next (accumulate .and (.imm n) s)

/-- R228: XOR n8 (0xEE). -/
def execXorN8 (n : Byte) (s : State) : Result := .next (accumulate .xor (.imm n) s)

/-- R231: OR n8 (0xF6). -/
def execOrN8 (n : Byte) (s : State) : Result := .next (accumulate .or (.imm n) s)

/-- R234: CP n8 (0xFE). -/
def execCpN8 (n : Byte) (s : State) : Result := .next (accumulate .cp (.imm n) s)

end Sys2Proof.Machine
end

