-- ==== Sys2Proof/Machine/Control.lean ====
section
/-! DEFINITION. Jumps, calls, returns and restarts (47_control.md, R295 to R306). No instruction of this family writes F. `none` in place of a
condition is the source's Always (R116). PC is past the whole instruction when these run (R295). -/

namespace Sys2Proof.Machine

/-- The branch is taken (R153). -/
def taken (cc : Option Cond) (s : State) : Bool :=
  match cc with
  | none => true
  | some cond => condHolds cond s.regs

/-- `JP nn`, `JP cc,nn` (R296, R297). -/
def jump (cc : Option Cond) (target : Word) (s : State) : State :=
  if taken cc s then { s.internal with pc := target } else s

/-- `JP HL` (R298): the target is HL itself. -/
def jumpHl (s : State) : State := { s with pc := s.hl }

/-- `JR e8`, `JR cc,e8` (R299, R300): the offset is sign-extended and added mod 2^16. -/
def jumpRelative (cc : Option Cond) (off : Byte) (s : State) : State :=
  if taken cc s then { s.internal with pc := s.pc + off.signExtend 16 } else s

/-- `CALL nn`, `CALL cc,nn` (R301, R302): the address after the instruction is pushed. -/
def call (cc : Option Cond) (target : Word) (s : State) : State :=
  if taken cc s then { s.internal.push16 s.pc with pc := target } else s

/-- `RET` (R303). -/
def ret (s : State) : State := s.returnBody

/-- `RET cc` (R304): an internal M-cycle for the condition, then the body of RET if it holds. -/
def retCond (cc : Cond) (s : State) : State :=
  if condHolds cc s.regs then s.internal.returnBody else s.internal

/-- `RST t` (R306). -/
def restart (target : Word) (s : State) : State := { s.internal.push16 s.pc with pc := target }

/-- R299: JR e8 (0x18). -/
def execJrE8 (e : Byte) (s : State) : Result := .next (jumpRelative none e s)

/-- R300: JR NZ,e8 (0x20). -/
def execJrNzE8 (e : Byte) (s : State) : Result := .next (jumpRelative (some .nz) e s)

/-- R300: JR Z,e8 (0x28). -/
def execJrZE8 (e : Byte) (s : State) : Result := .next (jumpRelative (some .z) e s)

/-- R300: JR NC,e8 (0x30). -/
def execJrNcE8 (e : Byte) (s : State) : Result := .next (jumpRelative (some .nc) e s)

/-- R300: JR C,e8 (0x38). -/
def execJrCE8 (e : Byte) (s : State) : Result := .next (jumpRelative (some .c) e s)

/-- R304: RET NZ (0xC0). -/
def execRetNz (s : State) : Result := .next (retCond .nz s)

/-- R297: JP NZ,nn (0xC2). -/
def execJpNzNn (nn : Word) (s : State) : Result := .next (jump (some .nz) nn s)

/-- R296: JP nn (0xC3). -/
def execJpNn (nn : Word) (s : State) : Result := .next (jump none nn s)

/-- R302: CALL NZ,nn (0xC4). -/
def execCallNzNn (nn : Word) (s : State) : Result := .next (call (some .nz) nn s)

/-- R306: RST 0x00 (0xC7). -/
def execRst00 (s : State) : Result := .next (restart 0x0000 s)

/-- R304: RET Z (0xC8). -/
def execRetZ (s : State) : Result := .next (retCond .z s)

/-- R303: RET (0xC9). -/
def execRet (s : State) : Result := .next (ret s)

/-- R297: JP Z,nn (0xCA). -/
def execJpZNn (nn : Word) (s : State) : Result := .next (jump (some .z) nn s)

/-- R302: CALL Z,nn (0xCC). -/
def execCallZNn (nn : Word) (s : State) : Result := .next (call (some .z) nn s)

/-- R301: CALL nn (0xCD). -/
def execCallNn (nn : Word) (s : State) : Result := .next (call none nn s)

/-- R306: RST 0x08 (0xCF). -/
def execRst08 (s : State) : Result := .next (restart 0x0008 s)

/-- R304: RET NC (0xD0). -/
def execRetNc (s : State) : Result := .next (retCond .nc s)

/-- R297: JP NC,nn (0xD2). -/
def execJpNcNn (nn : Word) (s : State) : Result := .next (jump (some .nc) nn s)

/-- R302: CALL NC,nn (0xD4). -/
def execCallNcNn (nn : Word) (s : State) : Result := .next (call (some .nc) nn s)

/-- R306: RST 0x10 (0xD7). -/
def execRst10 (s : State) : Result := .next (restart 0x0010 s)

/-- R304: RET C (0xD8). -/
def execRetC (s : State) : Result := .next (retCond .c s)

/-- R305: RETI (0xD9). -/
def execReti (s : State) : Result := .next (State.returnFromInterrupt s)

/-- R297: JP C,nn (0xDA). -/
def execJpCNn (nn : Word) (s : State) : Result := .next (jump (some .c) nn s)

/-- R302: CALL C,nn (0xDC). -/
def execCallCNn (nn : Word) (s : State) : Result := .next (call (some .c) nn s)

/-- R306: RST 0x18 (0xDF). -/
def execRst18 (s : State) : Result := .next (restart 0x0018 s)

/-- R306: RST 0x20 (0xE7). -/
def execRst20 (s : State) : Result := .next (restart 0x0020 s)

/-- R298: JP HL (0xE9). -/
def execJpHl (s : State) : Result := .next (jumpHl s)

/-- R306: RST 0x28 (0xEF). -/
def execRst28 (s : State) : Result := .next (restart 0x0028 s)

/-- R306: RST 0x30 (0xF7). -/
def execRst30 (s : State) : Result := .next (restart 0x0030 s)

/-- R306: RST 0x38 (0xFF). -/
def execRst38 (s : State) : Result := .next (restart 0x0038 s)

end Sys2Proof.Machine
end

