-- ==== Sys2Proof/Machine/Load16.lean ====
section
/-! DEFINITION. 16-bit loads and the stack instructions (42_load16.md, R190 to R195). -/

namespace Sys2Proof.Machine

/-- `LD dst,src` on 16-bit operands (R190, R191). -/
def ld16 (dst : Dest16) (src : Source16) (s : State) : State := store16 dst (load16 src s) s

/-- `LD SP,HL` (R192): one internal M-cycle. -/
def ldSpFromHl (s : State) : State := s.internal.set16 .sp s.hl

/-- `LD HL,SP+e8` (R193): Z = N = 0, H and C of the low-byte addition; SP is not changed. -/
def ldHlSpOffset (off : Byte) (s : State) : State :=
  let r := add16Signed8 s.sp off
  (s.internal.set16 .hl r.res).setFlags (some false) (some false) (some r.half) (some r.carry)

/-- `PUSH rr` (R194). -/
def pushPair (r : Reg16) (s : State) : State := s.internal.push16 (s.get16 r)

/-- `POP rr` (R195); POP AF loads the flags, F's low nibble as 0. -/
def popPair (r : Reg16) (s : State) : State :=
  let p := s.pop16
  p.2.set16 r p.1

/-- R190: LD BC,nn (0x01). -/
def execLdBcNn (nn : Word) (s : State) : Result := .next (ld16 (.reg .bc) (.imm nn) s)

/-- R191: LD (nn),SP (0x08). -/
def execLdAtNnSp (nn : Word) (s : State) : Result := .next (ld16 (.atNn nn) (.reg .sp) s)

/-- R190: LD DE,nn (0x11). -/
def execLdDeNn (nn : Word) (s : State) : Result := .next (ld16 (.reg .de) (.imm nn) s)

/-- R190: LD HL,nn (0x21). -/
def execLdHlNn (nn : Word) (s : State) : Result := .next (ld16 (.reg .hl) (.imm nn) s)

/-- R190: LD SP,nn (0x31). -/
def execLdSpNn (nn : Word) (s : State) : Result := .next (ld16 (.reg .sp) (.imm nn) s)

/-- R195: POP BC (0xC1). -/
def execPopBc (s : State) : Result := .next (popPair .bc s)

/-- R194: PUSH BC (0xC5). -/
def execPushBc (s : State) : Result := .next (pushPair .bc s)

/-- R195: POP DE (0xD1). -/
def execPopDe (s : State) : Result := .next (popPair .de s)

/-- R194: PUSH DE (0xD5). -/
def execPushDe (s : State) : Result := .next (pushPair .de s)

/-- R195: POP HL (0xE1). -/
def execPopHl (s : State) : Result := .next (popPair .hl s)

/-- R194: PUSH HL (0xE5). -/
def execPushHl (s : State) : Result := .next (pushPair .hl s)

/-- R195: POP AF (0xF1). -/
def execPopAf (s : State) : Result := .next (popPair .af s)

/-- R194: PUSH AF (0xF5). -/
def execPushAf (s : State) : Result := .next (pushPair .af s)

/-- R193: LD HL,SP+e8 (0xF8). -/
def execLdHlSpE8 (e : Byte) (s : State) : Result := .next (ldHlSpOffset e s)

/-- R192: LD SP,HL (0xF9). -/
def execLdSpHl (s : State) : Result := .next (ldSpFromHl s)

end Sys2Proof.Machine
end

