-- ==== Sys2Proof/Machine/Load8.lean ====
section
/-! DEFINITION. 8-bit loads (41_load8.md, R170 to R188). No instruction of this family writes F. One operation serves them all: the source
operand is read, then the destination written. -/

namespace Sys2Proof.Machine

/-- `LD dst,src` on 8-bit operands, the source resolved first (R149). -/
def ld8 (dst : Operand8) (src : Source8) (s : State) : State :=
  let p := loadSource8 src s
  store8 dst p.1 p.2

/-- R177: LD (BC),A (0x02). -/
def execLdAtBcA (s : State) : Result := .next (ld8 .atBc (.operand (.reg .a)) s)

/-- R171: LD B,n8 (0x06). -/
def execLdBN8 (n : Byte) (s : State) : Result := .next (ld8 (.reg .b) (.imm n) s)

/-- R175: LD A,(BC) (0x0A). -/
def execLdAAtBc (s : State) : Result := .next (ld8 (.reg .a) (.operand .atBc) s)

/-- R171: LD C,n8 (0x0E). -/
def execLdCN8 (n : Byte) (s : State) : Result := .next (ld8 (.reg .c) (.imm n) s)

/-- R178: LD (DE),A (0x12). -/
def execLdAtDeA (s : State) : Result := .next (ld8 .atDe (.operand (.reg .a)) s)

/-- R171: LD D,n8 (0x16). -/
def execLdDN8 (n : Byte) (s : State) : Result := .next (ld8 (.reg .d) (.imm n) s)

/-- R176: LD A,(DE) (0x1A). -/
def execLdAAtDe (s : State) : Result := .next (ld8 (.reg .a) (.operand .atDe) s)

/-- R171: LD E,n8 (0x1E). -/
def execLdEN8 (n : Byte) (s : State) : Result := .next (ld8 (.reg .e) (.imm n) s)

/-- R187: LD (HL+),A (0x22). -/
def execLdAtHlIncA (s : State) : Result := .next (ld8 .atHlInc (.operand (.reg .a)) s)

/-- R171: LD H,n8 (0x26). -/
def execLdHN8 (n : Byte) (s : State) : Result := .next (ld8 (.reg .h) (.imm n) s)

/-- R185: LD A,(HL+) (0x2A). -/
def execLdAAtHlInc (s : State) : Result := .next (ld8 (.reg .a) (.operand .atHlInc) s)

/-- R171: LD L,n8 (0x2E). -/
def execLdLN8 (n : Byte) (s : State) : Result := .next (ld8 (.reg .l) (.imm n) s)

/-- R188: LD (HL-),A (0x32). -/
def execLdAtHlDecA (s : State) : Result := .next (ld8 .atHlDec (.operand (.reg .a)) s)

/-- R174: LD (HL),n8 (0x36). -/
def execLdAtHlN8 (n : Byte) (s : State) : Result := .next (ld8 .atHl (.imm n) s)

/-- R186: LD A,(HL-) (0x3A). -/
def execLdAAtHlDec (s : State) : Result := .next (ld8 (.reg .a) (.operand .atHlDec) s)

/-- R171: LD A,n8 (0x3E). -/
def execLdAN8 (n : Byte) (s : State) : Result := .next (ld8 (.reg .a) (.imm n) s)

/-- R170: LD B,B (0x40). -/
def execLdBB (s : State) : Result := .next (ld8 (.reg .b) (.operand (.reg .b)) s)

/-- R170: LD B,C (0x41). -/
def execLdBC (s : State) : Result := .next (ld8 (.reg .b) (.operand (.reg .c)) s)

/-- R170: LD B,D (0x42). -/
def execLdBD (s : State) : Result := .next (ld8 (.reg .b) (.operand (.reg .d)) s)

/-- R170: LD B,E (0x43). -/
def execLdBE (s : State) : Result := .next (ld8 (.reg .b) (.operand (.reg .e)) s)

/-- R170: LD B,H (0x44). -/
def execLdBH (s : State) : Result := .next (ld8 (.reg .b) (.operand (.reg .h)) s)

/-- R170: LD B,L (0x45). -/
def execLdBL (s : State) : Result := .next (ld8 (.reg .b) (.operand (.reg .l)) s)

/-- R172: LD B,(HL) (0x46). -/
def execLdBAtHl (s : State) : Result := .next (ld8 (.reg .b) (.operand .atHl) s)

/-- R170: LD B,A (0x47). -/
def execLdBA (s : State) : Result := .next (ld8 (.reg .b) (.operand (.reg .a)) s)

/-- R170: LD C,B (0x48). -/
def execLdCB (s : State) : Result := .next (ld8 (.reg .c) (.operand (.reg .b)) s)

/-- R170: LD C,C (0x49). -/
def execLdCC (s : State) : Result := .next (ld8 (.reg .c) (.operand (.reg .c)) s)

/-- R170: LD C,D (0x4A). -/
def execLdCD (s : State) : Result := .next (ld8 (.reg .c) (.operand (.reg .d)) s)

/-- R170: LD C,E (0x4B). -/
def execLdCE (s : State) : Result := .next (ld8 (.reg .c) (.operand (.reg .e)) s)

/-- R170: LD C,H (0x4C). -/
def execLdCH (s : State) : Result := .next (ld8 (.reg .c) (.operand (.reg .h)) s)

/-- R170: LD C,L (0x4D). -/
def execLdCL (s : State) : Result := .next (ld8 (.reg .c) (.operand (.reg .l)) s)

/-- R172: LD C,(HL) (0x4E). -/
def execLdCAtHl (s : State) : Result := .next (ld8 (.reg .c) (.operand .atHl) s)

/-- R170: LD C,A (0x4F). -/
def execLdCA (s : State) : Result := .next (ld8 (.reg .c) (.operand (.reg .a)) s)

/-- R170: LD D,B (0x50). -/
def execLdDB (s : State) : Result := .next (ld8 (.reg .d) (.operand (.reg .b)) s)

/-- R170: LD D,C (0x51). -/
def execLdDC (s : State) : Result := .next (ld8 (.reg .d) (.operand (.reg .c)) s)

/-- R170: LD D,D (0x52). -/
def execLdDD (s : State) : Result := .next (ld8 (.reg .d) (.operand (.reg .d)) s)

/-- R170: LD D,E (0x53). -/
def execLdDE (s : State) : Result := .next (ld8 (.reg .d) (.operand (.reg .e)) s)

/-- R170: LD D,H (0x54). -/
def execLdDH (s : State) : Result := .next (ld8 (.reg .d) (.operand (.reg .h)) s)

/-- R170: LD D,L (0x55). -/
def execLdDL (s : State) : Result := .next (ld8 (.reg .d) (.operand (.reg .l)) s)

/-- R172: LD D,(HL) (0x56). -/
def execLdDAtHl (s : State) : Result := .next (ld8 (.reg .d) (.operand .atHl) s)

/-- R170: LD D,A (0x57). -/
def execLdDA (s : State) : Result := .next (ld8 (.reg .d) (.operand (.reg .a)) s)

/-- R170: LD E,B (0x58). -/
def execLdEB (s : State) : Result := .next (ld8 (.reg .e) (.operand (.reg .b)) s)

/-- R170: LD E,C (0x59). -/
def execLdEC (s : State) : Result := .next (ld8 (.reg .e) (.operand (.reg .c)) s)

/-- R170: LD E,D (0x5A). -/
def execLdED (s : State) : Result := .next (ld8 (.reg .e) (.operand (.reg .d)) s)

/-- R170: LD E,E (0x5B). -/
def execLdEE (s : State) : Result := .next (ld8 (.reg .e) (.operand (.reg .e)) s)

/-- R170: LD E,H (0x5C). -/
def execLdEH (s : State) : Result := .next (ld8 (.reg .e) (.operand (.reg .h)) s)

/-- R170: LD E,L (0x5D). -/
def execLdEL (s : State) : Result := .next (ld8 (.reg .e) (.operand (.reg .l)) s)

/-- R172: LD E,(HL) (0x5E). -/
def execLdEAtHl (s : State) : Result := .next (ld8 (.reg .e) (.operand .atHl) s)

/-- R170: LD E,A (0x5F). -/
def execLdEA (s : State) : Result := .next (ld8 (.reg .e) (.operand (.reg .a)) s)

/-- R170: LD H,B (0x60). -/
def execLdHB (s : State) : Result := .next (ld8 (.reg .h) (.operand (.reg .b)) s)

/-- R170: LD H,C (0x61). -/
def execLdHC (s : State) : Result := .next (ld8 (.reg .h) (.operand (.reg .c)) s)

/-- R170: LD H,D (0x62). -/
def execLdHD (s : State) : Result := .next (ld8 (.reg .h) (.operand (.reg .d)) s)

/-- R170: LD H,E (0x63). -/
def execLdHE (s : State) : Result := .next (ld8 (.reg .h) (.operand (.reg .e)) s)

/-- R170: LD H,H (0x64). -/
def execLdHH (s : State) : Result := .next (ld8 (.reg .h) (.operand (.reg .h)) s)

/-- R170: LD H,L (0x65). -/
def execLdHL (s : State) : Result := .next (ld8 (.reg .h) (.operand (.reg .l)) s)

/-- R172: LD H,(HL) (0x66). -/
def execLdHAtHl (s : State) : Result := .next (ld8 (.reg .h) (.operand .atHl) s)

/-- R170: LD H,A (0x67). -/
def execLdHA (s : State) : Result := .next (ld8 (.reg .h) (.operand (.reg .a)) s)

/-- R170: LD L,B (0x68). -/
def execLdLB (s : State) : Result := .next (ld8 (.reg .l) (.operand (.reg .b)) s)

/-- R170: LD L,C (0x69). -/
def execLdLC (s : State) : Result := .next (ld8 (.reg .l) (.operand (.reg .c)) s)

/-- R170: LD L,D (0x6A). -/
def execLdLD (s : State) : Result := .next (ld8 (.reg .l) (.operand (.reg .d)) s)

/-- R170: LD L,E (0x6B). -/
def execLdLE (s : State) : Result := .next (ld8 (.reg .l) (.operand (.reg .e)) s)

/-- R170: LD L,H (0x6C). -/
def execLdLH (s : State) : Result := .next (ld8 (.reg .l) (.operand (.reg .h)) s)

/-- R170: LD L,L (0x6D). -/
def execLdLL (s : State) : Result := .next (ld8 (.reg .l) (.operand (.reg .l)) s)

/-- R172: LD L,(HL) (0x6E). -/
def execLdLAtHl (s : State) : Result := .next (ld8 (.reg .l) (.operand .atHl) s)

/-- R170: LD L,A (0x6F). -/
def execLdLA (s : State) : Result := .next (ld8 (.reg .l) (.operand (.reg .a)) s)

/-- R173: LD (HL),B (0x70). -/
def execLdAtHlB (s : State) : Result := .next (ld8 .atHl (.operand (.reg .b)) s)

/-- R173: LD (HL),C (0x71). -/
def execLdAtHlC (s : State) : Result := .next (ld8 .atHl (.operand (.reg .c)) s)

/-- R173: LD (HL),D (0x72). -/
def execLdAtHlD (s : State) : Result := .next (ld8 .atHl (.operand (.reg .d)) s)

/-- R173: LD (HL),E (0x73). -/
def execLdAtHlE (s : State) : Result := .next (ld8 .atHl (.operand (.reg .e)) s)

/-- R173: LD (HL),H (0x74). -/
def execLdAtHlH (s : State) : Result := .next (ld8 .atHl (.operand (.reg .h)) s)

/-- R173: LD (HL),L (0x75). -/
def execLdAtHlL (s : State) : Result := .next (ld8 .atHl (.operand (.reg .l)) s)

/-- R173: LD (HL),A (0x77). -/
def execLdAtHlA (s : State) : Result := .next (ld8 .atHl (.operand (.reg .a)) s)

/-- R170: LD A,B (0x78). -/
def execLdAB (s : State) : Result := .next (ld8 (.reg .a) (.operand (.reg .b)) s)

/-- R170: LD A,C (0x79). -/
def execLdAC (s : State) : Result := .next (ld8 (.reg .a) (.operand (.reg .c)) s)

/-- R170: LD A,D (0x7A). -/
def execLdAD (s : State) : Result := .next (ld8 (.reg .a) (.operand (.reg .d)) s)

/-- R170: LD A,E (0x7B). -/
def execLdAE (s : State) : Result := .next (ld8 (.reg .a) (.operand (.reg .e)) s)

/-- R170: LD A,H (0x7C). -/
def execLdAH (s : State) : Result := .next (ld8 (.reg .a) (.operand (.reg .h)) s)

/-- R170: LD A,L (0x7D). -/
def execLdAL (s : State) : Result := .next (ld8 (.reg .a) (.operand (.reg .l)) s)

/-- R172: LD A,(HL) (0x7E). -/
def execLdAAtHl (s : State) : Result := .next (ld8 (.reg .a) (.operand .atHl) s)

/-- R170: LD A,A (0x7F). -/
def execLdAA (s : State) : Result := .next (ld8 (.reg .a) (.operand (.reg .a)) s)

/-- R182: LDH (n8),A (0xE0). -/
def execLdhAtN8A (n : Byte) (s : State) : Result := .next (ld8 (.highN n) (.operand (.reg .a)) s)

/-- R184: LD (C),A (0xE2). -/
def execLdAtCA (s : State) : Result := .next (ld8 .highC (.operand (.reg .a)) s)

/-- R180: LD (nn),A (0xEA). -/
def execLdAtNnA (nn : Word) (s : State) : Result := .next (ld8 (.atNn nn) (.operand (.reg .a)) s)

/-- R181: LDH A,(n8) (0xF0). -/
def execLdhAAtN8 (n : Byte) (s : State) : Result := .next (ld8 (.reg .a) (.operand (.highN n)) s)

/-- R183: LD A,(C) (0xF2). -/
def execLdAAtC (s : State) : Result := .next (ld8 (.reg .a) (.operand .highC) s)

/-- R179: LD A,(nn) (0xFA). -/
def execLdAAtNn (nn : Word) (s : State) : Result := .next (ld8 (.reg .a) (.operand (.atNn nn)) s)

end Sys2Proof.Machine
end

