-- ==== Sys2Proof/Machine/RotateShift.lean ====
section
/-! DEFINITION. Rotates, shifts and SWAP (45_rotate_shift.md, R260 to R280). -/

namespace Sys2Proof.Machine

/-- A rotate of the operand `_A` (R260 to R263): Z is forced to 0, N = H = 0, C the bit shifted out. -/
def rotateA (op : ShiftOp) (s : State) : State :=
  let r := shiftEval op s.regs.a s.regs.flagC
  (s.setReg .a r.1).setFlags (some false) (some false) (some false) (some r.2)

/-- A rotate or shift of the CB page (R264 to R280): the result goes back to the slot it came from; Z from the result, N = H = 0, C
the bit shifted out. -/
def shift8 (op : ShiftOp) (o : Operand8) (s : State) : State :=
  let p := load8 o s
  let r := shiftEval op p.1 p.2.regs.flagC
  (store8 o r.1 p.2).setFlags (some (r.1 == 0x00)) (some false) (some false) (some r.2)

/-- R260: RLCA (0x07). -/
def execRlca (s : State) : Result := .next (rotateA .rlc s)

/-- R261: RRCA (0x0F). -/
def execRrca (s : State) : Result := .next (rotateA .rrc s)

/-- R262: RLA (0x17). -/
def execRla (s : State) : Result := .next (rotateA .rl s)

/-- R263: RRA (0x1F). -/
def execRra (s : State) : Result := .next (rotateA .rr s)

/-- R265: RLC B (0xCB 0x00). -/
def execRlcB (s : State) : Result := .next (shift8 .rlc (.reg .b) s)

/-- R265: RLC C (0xCB 0x01). -/
def execRlcC (s : State) : Result := .next (shift8 .rlc (.reg .c) s)

/-- R265: RLC D (0xCB 0x02). -/
def execRlcD (s : State) : Result := .next (shift8 .rlc (.reg .d) s)

/-- R265: RLC E (0xCB 0x03). -/
def execRlcE (s : State) : Result := .next (shift8 .rlc (.reg .e) s)

/-- R265: RLC H (0xCB 0x04). -/
def execRlcH (s : State) : Result := .next (shift8 .rlc (.reg .h) s)

/-- R265: RLC L (0xCB 0x05). -/
def execRlcL (s : State) : Result := .next (shift8 .rlc (.reg .l) s)

/-- R266: RLC (HL) (0xCB 0x06). -/
def execRlcAtHl (s : State) : Result := .next (shift8 .rlc .atHl s)

/-- R265: RLC A (0xCB 0x07). -/
def execRlcA (s : State) : Result := .next (shift8 .rlc (.reg .a) s)

/-- R267: RRC B (0xCB 0x08). -/
def execRrcB (s : State) : Result := .next (shift8 .rrc (.reg .b) s)

/-- R267: RRC C (0xCB 0x09). -/
def execRrcC (s : State) : Result := .next (shift8 .rrc (.reg .c) s)

/-- R267: RRC D (0xCB 0x0A). -/
def execRrcD (s : State) : Result := .next (shift8 .rrc (.reg .d) s)

/-- R267: RRC E (0xCB 0x0B). -/
def execRrcE (s : State) : Result := .next (shift8 .rrc (.reg .e) s)

/-- R267: RRC H (0xCB 0x0C). -/
def execRrcH (s : State) : Result := .next (shift8 .rrc (.reg .h) s)

/-- R267: RRC L (0xCB 0x0D). -/
def execRrcL (s : State) : Result := .next (shift8 .rrc (.reg .l) s)

/-- R268: RRC (HL) (0xCB 0x0E). -/
def execRrcAtHl (s : State) : Result := .next (shift8 .rrc .atHl s)

/-- R267: RRC A (0xCB 0x0F). -/
def execRrcA (s : State) : Result := .next (shift8 .rrc (.reg .a) s)

/-- R269: RL B (0xCB 0x10). -/
def execRlB (s : State) : Result := .next (shift8 .rl (.reg .b) s)

/-- R269: RL C (0xCB 0x11). -/
def execRlC (s : State) : Result := .next (shift8 .rl (.reg .c) s)

/-- R269: RL D (0xCB 0x12). -/
def execRlD (s : State) : Result := .next (shift8 .rl (.reg .d) s)

/-- R269: RL E (0xCB 0x13). -/
def execRlE (s : State) : Result := .next (shift8 .rl (.reg .e) s)

/-- R269: RL H (0xCB 0x14). -/
def execRlH (s : State) : Result := .next (shift8 .rl (.reg .h) s)

/-- R269: RL L (0xCB 0x15). -/
def execRlL (s : State) : Result := .next (shift8 .rl (.reg .l) s)

/-- R270: RL (HL) (0xCB 0x16). -/
def execRlAtHl (s : State) : Result := .next (shift8 .rl .atHl s)

/-- R269: RL A (0xCB 0x17). -/
def execRlA (s : State) : Result := .next (shift8 .rl (.reg .a) s)

/-- R271: RR B (0xCB 0x18). -/
def execRrB (s : State) : Result := .next (shift8 .rr (.reg .b) s)

/-- R271: RR C (0xCB 0x19). -/
def execRrC (s : State) : Result := .next (shift8 .rr (.reg .c) s)

/-- R271: RR D (0xCB 0x1A). -/
def execRrD (s : State) : Result := .next (shift8 .rr (.reg .d) s)

/-- R271: RR E (0xCB 0x1B). -/
def execRrE (s : State) : Result := .next (shift8 .rr (.reg .e) s)

/-- R271: RR H (0xCB 0x1C). -/
def execRrH (s : State) : Result := .next (shift8 .rr (.reg .h) s)

/-- R271: RR L (0xCB 0x1D). -/
def execRrL (s : State) : Result := .next (shift8 .rr (.reg .l) s)

/-- R272: RR (HL) (0xCB 0x1E). -/
def execRrAtHl (s : State) : Result := .next (shift8 .rr .atHl s)

/-- R271: RR A (0xCB 0x1F). -/
def execRrA (s : State) : Result := .next (shift8 .rr (.reg .a) s)

/-- R273: SLA B (0xCB 0x20). -/
def execSlaB (s : State) : Result := .next (shift8 .sla (.reg .b) s)

/-- R273: SLA C (0xCB 0x21). -/
def execSlaC (s : State) : Result := .next (shift8 .sla (.reg .c) s)

/-- R273: SLA D (0xCB 0x22). -/
def execSlaD (s : State) : Result := .next (shift8 .sla (.reg .d) s)

/-- R273: SLA E (0xCB 0x23). -/
def execSlaE (s : State) : Result := .next (shift8 .sla (.reg .e) s)

/-- R273: SLA H (0xCB 0x24). -/
def execSlaH (s : State) : Result := .next (shift8 .sla (.reg .h) s)

/-- R273: SLA L (0xCB 0x25). -/
def execSlaL (s : State) : Result := .next (shift8 .sla (.reg .l) s)

/-- R274: SLA (HL) (0xCB 0x26). -/
def execSlaAtHl (s : State) : Result := .next (shift8 .sla .atHl s)

/-- R273: SLA A (0xCB 0x27). -/
def execSlaA (s : State) : Result := .next (shift8 .sla (.reg .a) s)

/-- R275: SRA B (0xCB 0x28). -/
def execSraB (s : State) : Result := .next (shift8 .sra (.reg .b) s)

/-- R275: SRA C (0xCB 0x29). -/
def execSraC (s : State) : Result := .next (shift8 .sra (.reg .c) s)

/-- R275: SRA D (0xCB 0x2A). -/
def execSraD (s : State) : Result := .next (shift8 .sra (.reg .d) s)

/-- R275: SRA E (0xCB 0x2B). -/
def execSraE (s : State) : Result := .next (shift8 .sra (.reg .e) s)

/-- R275: SRA H (0xCB 0x2C). -/
def execSraH (s : State) : Result := .next (shift8 .sra (.reg .h) s)

/-- R275: SRA L (0xCB 0x2D). -/
def execSraL (s : State) : Result := .next (shift8 .sra (.reg .l) s)

/-- R276: SRA (HL) (0xCB 0x2E). -/
def execSraAtHl (s : State) : Result := .next (shift8 .sra .atHl s)

/-- R275: SRA A (0xCB 0x2F). -/
def execSraA (s : State) : Result := .next (shift8 .sra (.reg .a) s)

/-- R277: SWAP B (0xCB 0x30). -/
def execSwapB (s : State) : Result := .next (shift8 .swap (.reg .b) s)

/-- R277: SWAP C (0xCB 0x31). -/
def execSwapC (s : State) : Result := .next (shift8 .swap (.reg .c) s)

/-- R277: SWAP D (0xCB 0x32). -/
def execSwapD (s : State) : Result := .next (shift8 .swap (.reg .d) s)

/-- R277: SWAP E (0xCB 0x33). -/
def execSwapE (s : State) : Result := .next (shift8 .swap (.reg .e) s)

/-- R277: SWAP H (0xCB 0x34). -/
def execSwapH (s : State) : Result := .next (shift8 .swap (.reg .h) s)

/-- R277: SWAP L (0xCB 0x35). -/
def execSwapL (s : State) : Result := .next (shift8 .swap (.reg .l) s)

/-- R278: SWAP (HL) (0xCB 0x36). -/
def execSwapAtHl (s : State) : Result := .next (shift8 .swap .atHl s)

/-- R277: SWAP A (0xCB 0x37). -/
def execSwapA (s : State) : Result := .next (shift8 .swap (.reg .a) s)

/-- R279: SRL B (0xCB 0x38). -/
def execSrlB (s : State) : Result := .next (shift8 .srl (.reg .b) s)

/-- R279: SRL C (0xCB 0x39). -/
def execSrlC (s : State) : Result := .next (shift8 .srl (.reg .c) s)

/-- R279: SRL D (0xCB 0x3A). -/
def execSrlD (s : State) : Result := .next (shift8 .srl (.reg .d) s)

/-- R279: SRL E (0xCB 0x3B). -/
def execSrlE (s : State) : Result := .next (shift8 .srl (.reg .e) s)

/-- R279: SRL H (0xCB 0x3C). -/
def execSrlH (s : State) : Result := .next (shift8 .srl (.reg .h) s)

/-- R279: SRL L (0xCB 0x3D). -/
def execSrlL (s : State) : Result := .next (shift8 .srl (.reg .l) s)

/-- R280: SRL (HL) (0xCB 0x3E). -/
def execSrlAtHl (s : State) : Result := .next (shift8 .srl .atHl s)

/-- R279: SRL A (0xCB 0x3F). -/
def execSrlA (s : State) : Result := .next (shift8 .srl (.reg .a) s)

end Sys2Proof.Machine
end

