-- ==== Sys2Proof/Machine/System.lean ====
section
/-! DEFINITION. System and miscellaneous instructions (48_system.md, R310 to R316), and the undefined encodings (R125, R126, R340), which are
instructions that raise DecodeFatal: the fault becomes part of the state, and the machine takes no further step (R320). -/

namespace Sys2Proof.Machine

/-- `HALT` (R311). -/
def haltCpu (s : State) : State := { s with halt := true }

/-- `DI` and `EI`: IME is cleared or set at once (R313, R314, R375, 90 C2). -/
def setIme (on : Bool) (s : State) : State := { s with ime := on }

/-- An illegal primary opcode (R316): the opcode byte is at PC − 1. -/
def illegalOpcode (op : Byte) (s : State) : State := s.raise (.illegalOpcode op (s.pc - 1))

/-- `0x10 b` with `b ≠ 0x00` (R126, R340): both bytes are fetched, 0x10 is at PC − 2. -/
def illegalStopPair (b : Byte) (s : State) : State := s.raise (.illegalStop b (s.pc - 2))

/-- The operand of a CB opcode's slot (R113). -/
def slotOperand (r : BitVec 3) : Operand8 := pick8 r (.reg .b) (.reg .c) (.reg .d) (.reg .e) (.reg .h) (.reg .l) .atHl (.reg .a)

/-- The operation of a CB opcode's group 0 (R118). -/
def shiftOfField (b : BitVec 3) : ShiftOp := pick8 b .rlc .rrc .rl .rr .sla .sra .swap .srl

/-- The rule of the CB-page opcode `cb` (R124), after both bytes are fetched. -/
def cbPage (cb : Byte) (s : State) : State :=
  pick4 (fieldX cb) (shift8 (shiftOfField (fieldY cb)) (slotOperand (fieldZ cb)) s)
    (testBit (fieldY cb).toFin (slotOperand (fieldZ cb)) s) (clearBit (fieldY cb).toFin (slotOperand (fieldZ cb)) s)
    (setBit (fieldY cb).toFin (slotOperand (fieldZ cb)) s)

/-- `PREFIX CB` (R315): `cb <- Fetch8()`, then the CB-page rule for it. -/
def prefixPage (s : State) : State :=
  let p := s.fetch8
  cbPage p.1 p.2

/-- R310: NOP (0x00). -/
def execNop (s : State) : Result := .next s

/-- R312: STOP (0x10 0x00). -/
def execStop (s : State) : Result := .next s

/-- R340: undefined encoding (0x10 b). -/
def execIllegalStop (b : Byte) (s : State) : Result := .next (illegalStopPair b s)

/-- R311: HALT (0x76). -/
def execHalt (s : State) : Result := .next (haltCpu s)

/-- R315: PREFIX CB (0xCB). -/
def execPrefixCb (s : State) : Result := .next (prefixPage s)

/-- R316: undefined encoding (0xD3). -/
def execIllegalD3 (s : State) : Result := .next (illegalOpcode 0xD3 s)

/-- R316: undefined encoding (0xDB). -/
def execIllegalDB (s : State) : Result := .next (illegalOpcode 0xDB s)

/-- R316: undefined encoding (0xDD). -/
def execIllegalDD (s : State) : Result := .next (illegalOpcode 0xDD s)

/-- R316: undefined encoding (0xE3). -/
def execIllegalE3 (s : State) : Result := .next (illegalOpcode 0xE3 s)

/-- R316: undefined encoding (0xE4). -/
def execIllegalE4 (s : State) : Result := .next (illegalOpcode 0xE4 s)

/-- R316: undefined encoding (0xEB). -/
def execIllegalEB (s : State) : Result := .next (illegalOpcode 0xEB s)

/-- R316: undefined encoding (0xEC). -/
def execIllegalEC (s : State) : Result := .next (illegalOpcode 0xEC s)

/-- R316: undefined encoding (0xED). -/
def execIllegalED (s : State) : Result := .next (illegalOpcode 0xED s)

/-- R313: DI (0xF3). -/
def execDi (s : State) : Result := .next (setIme false s)

/-- R316: undefined encoding (0xF4). -/
def execIllegalF4 (s : State) : Result := .next (illegalOpcode 0xF4 s)

/-- R314: EI (0xFB). -/
def execEi (s : State) : Result := .next (setIme true s)

/-- R316: undefined encoding (0xFC). -/
def execIllegalFC (s : State) : Result := .next (illegalOpcode 0xFC s)

/-- R316: undefined encoding (0xFD). -/
def execIllegalFD (s : State) : Result := .next (illegalOpcode 0xFD s)

end Sys2Proof.Machine
end

