-- ==== Sys2Proof/Machine/Ticks.lean ====
section
/-! DEFINITION. The tick engine (60_exceptions.md, R322 to R333): serial, timer and interrupt controller, once per T-cycle, and the end of a step
that runs it (R320). -/

namespace Sys2Proof.Machine

/-! ## Serial and timer (R330 to R333) -/

/-- The serial period in T-cycles by SC[1:0] (R41, R333). -/
def serialPeriod (sc : Byte) : Nat := pick4 (sc.extractLsb' 0 2) 512 256 16 8

/-- The TIMA period in T-cycles by TAC[1:0] (R45, R331). -/
def timaPeriod (tac : Byte) : Nat := pick4 (tac.extractLsb' 0 2) 1024 16 64 256

/-- A request raised in IF. -/
def Bus.request (b : Bus) (mask : Byte) : Bus := b.setIo ioIF (b.io ioIF ||| mask)

/-- A transfer is active and its T-cycle has come (R333). -/
def State.serialDue (s : State) : Bool :=
  (s.bus.io ioSC).getLsbD 7 && s.sysCounter.toNat % serialPeriod (s.bus.io ioSC) == 0

/-- `serial_tick` (R333): SB goes into the ring, SC bit 7 is cleared, IF bit 3 is set; SB is not changed. -/
def State.serialTick (s : State) : State :=
  if s.serialDue then
    { s with
      serialBuffer := Memory.write s.serialBuffer s.serialPos.val (s.bus.io ioSB)
      serialPos := ⟨(s.serialPos.val + 1) % 255, Nat.mod_lt _ (by decide)⟩
      bus := (s.bus.setIo ioSC (s.bus.io ioSC &&& 0x7F)).request 0x08 }
  else s

/-- DIV's part of `timer_tick` (R330). -/
def State.divTick (s : State) : State :=
  if s.sysCounter.toNat % 256 == 0 then { s with bus := s.bus.setIo ioDIV (s.bus.io ioDIV + 1) } else s

/-- The timer is on and its T-cycle has come (R331). -/
def State.timaDue (s : State) : Bool :=
  (s.bus.io ioTAC).getLsbD 2 && s.sysCounter.toNat % timaPeriod (s.bus.io ioTAC) == 0

/-- TIMA's part of `timer_tick` (R331): on overflow the reload from TMA and the request, in the same T-cycle. -/
def State.timaTick (s : State) : State :=
  if s.timaDue then
    if s.bus.io ioTIMA = 0xFF then { s with bus := (s.bus.setIo ioTIMA (s.bus.io ioTMA)).request 0x04 }
    else { s with bus := s.bus.setIo ioTIMA (s.bus.io ioTIMA + 1) }
  else s

/-- `timer_tick`: DIV, then TIMA (R331). -/
def State.timerTick (s : State) : State := s.divTick.timaTick

/-! ## The interrupt controller (R323 to R327) -/

/-- The pending set `P = IE & IF & 0x1F` (R323). -/
def State.pending (s : State) : Byte := s.bus.io ioIE &&& s.bus.io ioIF &&& 0x1F

/-- The lowest set bit among bits 4:0 (R326, R335). -/
def lowestRequest (p : Byte) : Option (Fin 5) :=
  if p.getLsbD 0 then some 0 else if p.getLsbD 1 then some 1 else if p.getLsbD 2 then some 2
  else if p.getLsbD 3 then some 3 else if p.getLsbD 4 then some 4 else none

/-- `interrupt_tick` (R325, R326): a pending request clears HALT, and with IME it is dispatched; the Bool says whether. -/
def State.interruptTick (s : State) : State × Bool :=
  match lowestRequest s.pending with
  | none => (s, false)
  | some i => if s.ime then (s.takeInterrupt i, true) else ({ s with halt := false }, false)

/-! ## T-cycles (R320, R322) -/

/-- `tcycle()` (R322): `sys_counter` first, then serial, timer, interrupt. -/
def State.tcycle (s : State) : State × Bool :=
  ({ s with sysCounter := s.sysCounter + 1 }.serialTick.timerTick).interruptTick

/-- `n` T-cycles; the Bool is `dispatched` (R320). -/
def State.tcycles (s : State) (n : Nat) : State × Bool :=
  match n with
  | 0 => (s, false)
  | k + 1 =>
    let p := s.tcycle
    let q := p.1.tcycles k
    (q.1, p.2 || q.2)

/-- `DISPATCH_MCYCLES` (R328). -/
def dispatchMcycles (c : DispatchCost) : Nat :=
  match c with
  | .three => 3
  | .five => 5

/-- The tick engine of a step (R320): four T-cycles for each M-cycle, and those of the dispatch if there was one. -/
def State.runEngine (s : State) : State :=
  let p := s.tcycles (4 * s.mCycle)
  if p.2 then
    let q := (p.1.tcycles (4 * dispatchMcycles p.1.dispatchCost)).1
    { q with mCycle := q.mCycle + dispatchMcycles q.dispatchCost }
  else p.1

/-- A halted step (R320): one M-cycle, no fetch. -/
def State.haltedStep (s : State) : State := s.internal.runEngine

/-- The rest of a step after the body (R320, R321): a body that raised DecodeFatal ends the step where it stands; otherwise the
instruction is counted and the tick engine runs. -/
def State.afterBody (s : State) : State :=
  match s.fault with
  | some _ => s
  | none => { s with exeCounter := s.exeCounter + 1 }.runEngine

/-- `State.afterBody` on what a meaning answers. -/
def finishStep (r : Result) : Result :=
  match r with
  | .next s => .next s.afterBody
  | .fault e => .fault e
  | .refused e => .refused e

end Sys2Proof.Machine
end

