-- ==== Sys2Proof/Machine/Fetch.lean ====
section
/-! DEFINITION. Instruction fetch (R26, R82, R321): the opcode byte at PC and the bytes after it, read through the bus. A bus read has no side
effect (R60), so the bytes are read at once and the fetches of the instruction's length are then counted. -/

namespace Sys2Proof.Machine

/-- The byte `k` places past PC, mod 2^16. -/
def State.codeByte (s : State) (k : Nat) : Byte := s.bus.read (s.pc + BitVec.ofNat 16 k)

/-- The instruction at PC (R122). -/
def State.fetchInstr (s : State) : Instr := decodeAt (s.codeByte 0) (s.codeByte 1) (s.codeByte 2)

/-- The state after the fetches of the instruction at PC. -/
def State.afterFetch (s : State) : State := s.advance (instrLength (s.codeByte 0))

/-- The start of a step: `m_cycle <- 0` (R320). -/
def State.beginStep (s : State) : State := { s with mCycle := 0 }

/-! ## Placing an instruction where the next fetch reads it -/

/-- A byte put into the storage that `Bus.read` reads at an address: the ROM image, external RAM, or the internal array. -/
def Bus.poke (b : Bus) (addr : Word) (v : Byte) : Bus :=
  let n := addr.toNat
  let rom (i : Nat) : Bus := { b with cart := { b.cart with rom := Memory.write b.cart.rom (i % b.cart.romSize) v } }
  if n < 0x4000 then rom n
  else if n < 0x8000 then rom (b.bankedRomIndex n)
  else if n < 0xA000 then b.setIo n v
  else if n < 0xC000 then b.extRamWrite n v
  else b.setIo n v

/-- An address whose byte can be placed: any but absent or disabled external RAM. -/
def Bus.placeable (b : Bus) (addr : Word) : Bool :=
  decide (addr.toNat < 0xA000) || decide (0xC000 ≤ addr.toNat) || b.extRamPresent

/-- A state that will fetch at its PC, which is moved to the entry 0x0100 where an instruction of three bytes at PC would meet
absent or disabled external RAM. -/
def State.readyToFetch (s : State) : State :=
  let ok := s.bus.placeable s.pc && s.bus.placeable (s.pc + 1) && s.bus.placeable (s.pc + 2)
  { s with fault := none, halt := false, pc := if ok then s.pc else 0x0100 }

/-- The bytes of a list placed from an address on. -/
def Bus.pokeBytes (b : Bus) (addr : Word) (bytes : List Byte) : Bus :=
  match bytes with
  | [] => b
  | v :: rest => (b.poke addr v).pokeBytes (addr + 1) rest

/-- A table word's bytes, continued with 0x00 to the longest instruction. -/
def threeBytes (nbits w : Nat) : List Byte := (tableBytes nbits w ++ [0x00, 0x00, 0x00]).take 3

/-- The state in which the next fetch reads a table word. -/
def State.placeWord (s : State) (nbits w : Nat) : State :=
  let s1 := s.readyToFetch
  { s1 with bus := s1.bus.pokeBytes s1.pc (threeBytes nbits w) }

end Sys2Proof.Machine
end

