-- ==== Sys2Proof/Machine/Step.lean ====
section
/-! DEFINITION. The machine's one transition (R320). -/

namespace Sys2Proof.Machine

/-- `step(S)` (R320): a faulted machine stays as it is; a halted one spends an M-cycle; otherwise the instruction at PC is fetched, its
body runs (R321), and the tick engine after it. -/
def step (s : State) : Host.Outcome State Fault Refusal :=
  match s.fault with
  | some _ => .next s
  | none =>
    if s.halt then .next s.beginStep.haltedStep
    else finishStep (exec s.beginStep.fetchInstr s.beginStep.afterFetch)

/-- The state whose next step fetches and runs the instruction of a table word: its bytes are placed at PC, in whatever storage the bus
reads there, and the machine neither halted nor faulted (log 6). -/
def State.withFetchWord (s : State) (nbits w : Nat) : State := s.placeWord nbits w

end Sys2Proof.Machine
end

