-- ==== Sys2Proof/Machine/Reset.lean ====
section
/-! DEFINITION. The reset event (R370): the construction of the machine from a cartridge image and the open parameters, with the checks of R373
in their order. A construction that fails raises InitError (R342), and there is no initial state. -/

namespace Sys2Proof.Machine

/-- What the host hands to the reset event: the image's length and bytes, whether it could be read, and whether external RAM could
be allocated (R342). -/
structure RomImage where
  length : Nat
  cells : List Host.Cell
  readable : Bool := true
  allocatable : Bool := true
  deriving DecidableEq, Repr

/-- InitError (R342), by the check of R373 that failed. -/
inductive InitError where
  /-- (a) the image cannot be read, or is shorter than 0x8000 bytes. -/
  | romImage
  /-- (b) `ROM[0x148]` is not in 0..8, or `32768 << ROM[0x148]` is not the image's length. -/
  | romSize
  /-- (c) `ROM[0x149]` is not in 0..5. -/
  | ramSize
  /-- (d) `ROM[0x147]` is not an accepted cartridge type. -/
  | cartType
  /-- (e) external RAM cannot be allocated. -/
  | allocation
  deriving DecidableEq, Repr

/-- The cartridge type of a header byte; none for a type the machine does not accept (R373 d). -/
def cartTypeOf (v : Byte) : Option CartType :=
  if v = 0x00 then some .romOnly else if v = 0x01 then some .mbc1 else if v = 0x02 then some .mbc1Ram
  else if v = 0x03 then some .mbc1RamBattery else if v = 0x08 then some .romRam else if v = 0x09 then some .romRamBattery
  else none

/-- The cartridge of an image, by the checks of R373 in their order. -/
def loadCartridge (im : RomImage) : Except InitError Cartridge :=
  let rom := Memory.ofCells 0 im.length im.cells
  let n := (Memory.read rom 0x148).toNat
  let k := (Memory.read rom 0x149).toNat
  if !im.readable || im.length < 0x8000 then .error .romImage
  else if hn : n < 9 then
    if romSizeOf n ≠ im.length then .error .romSize
    else if hk : k < 6 then
      match cartTypeOf (Memory.read rom 0x147) with
      | none => .error .cartType
      | some t =>
        if im.allocatable then .ok { rom := rom, cartType := t, romCode := ⟨n, hn⟩, ramCode := ⟨k, hk⟩ } else .error .allocation
    else .error .ramSize
  else .error .romSize

/-- The reset event (R370): the checks, then R53's table, the initial contents taken in canonical form within their arrays. -/
def powerOn (im : RomImage) (p : ResetParams) : Except InitError State :=
  match loadCartridge im with
  | .error e => .error e
  | .ok cart =>
    .ok (State.ofParams cart
      { p with memInit := Memory.ofCells 0x8000 0x10000 p.memInit, extRamInit := Memory.ofCells 0 cart.ramSize p.extRamInit })

end Sys2Proof.Machine
end

