-- ==== Sys2Proof/Safety.lean ====
section
/-! DEFINITION. What claims call a sound state, and the words in which the frames of the instructions are said: where an instruction
stores, what a store can change, which instructions write the control state, and which read a flag. -/

namespace Sys2Proof.Machine

/-! ## Sound states -/

/-- The machine can take a step: no DecodeFatal has stopped it (R33, R340). -/
abbrev State.Running (s : State) : Prop := s.fault = none

/-- A cartridge whose image is canonical and whose header bytes are those of the image (R34). -/
structure Cartridge.Sound (c : Cartridge) : Prop where
  romWf : Memory.wf c.rom = true
  romWithin : Memory.within 0 c.romSize c.rom = true
  cartType : Memory.read c.rom 0x147 = c.cartType.code
  romCode : (Memory.read c.rom 0x148).toNat = c.romCode.val
  ramCode : (Memory.read c.rom 0x149).toNat = c.ramCode.val

/-- A bus whose arrays are canonical and inside their bounds (R35, R36), with a low bank register that is not 0 (R37). -/
structure Bus.Sound (b : Bus) : Prop where
  cart : b.cart.Sound
  memWf : Memory.wf b.mem = true
  memWithin : Memory.within 0x8000 0x10000 b.mem = true
  extRamWf : Memory.wf b.extRam = true
  extRamWithin : Memory.within 0 b.cart.ramSize b.extRam = true
  bankLo : b.romBankLo ≠ 0

/-- The states the machine can be in: F's low nibble is 0 (R22), the bus is sound, the serial ring is canonical and has 255 places
(R32). -/
structure State.Sound (s : State) : Prop where
  flagNibble : s.regs.f &&& 0x0F = 0x00
  bus : s.bus.Sound
  ringWf : Memory.wf s.serialBuffer = true
  ringWithin : Memory.within 0 255 s.serialBuffer = true

/-! ## Stores -/

/-- The addresses a CB-page opcode's body writes through the bus: the `(HL)` forms of all groups but `BIT` (R118, R286). -/
def cbStores (cb : Byte) (s : State) : List Word := if fieldZ cb = slotHL ∧ fieldX cb ≠ 1 then [s.hl] else []

/-- The two addresses of a push (R12). -/
def pushedAt (s : State) : List Word := [s.sp - 1, s.sp - 2]

/-- The addresses that an instruction's body, run in `s` (its fetches done), writes through the bus, in their order. -/
def storesOf (i : Instr) (s : State) : List Word :=
  match i with
  | .ldAtBcA => [s.get16 .bc]
  | .ldAtDeA => [s.get16 .de]
  | .ldAtHlIncA | .ldAtHlDecA | .ldAtHlN8 _ => [s.hl]
  | .ldAtHlB | .ldAtHlC | .ldAtHlD | .ldAtHlE | .ldAtHlH | .ldAtHlL | .ldAtHlA | .incAtHl | .decAtHl => [s.hl]
  | .ldAtNnA nn => [nn]
  | .ldhAtN8A n => [highAddr n]
  | .ldAtCA => [highAddr s.regs.c]
  | .ldAtNnSp nn => [nn, nn + 1]
  | .pushBc | .pushDe | .pushHl | .pushAf | .callNn _ => pushedAt s
  | .rst00 | .rst08 | .rst10 | .rst18 | .rst20 | .rst28 | .rst30 | .rst38 => pushedAt s
  | .callNzNn _ => if condHolds .nz s.regs then pushedAt s else []
  | .callZNn _ => if condHolds .z s.regs then pushedAt s else []
  | .callNcNn _ => if condHolds .nc s.regs then pushedAt s else []
  | .callCNn _ => if condHolds .c s.regs then pushedAt s else []
  | .rlcAtHl | .rrcAtHl | .rlAtHl | .rrAtHl | .slaAtHl | .sraAtHl | .swapAtHl | .srlAtHl => [s.hl]
  | .res0AtHl | .res1AtHl | .res2AtHl | .res3AtHl | .res4AtHl | .res5AtHl | .res6AtHl | .res7AtHl => [s.hl]
  | .set0AtHl | .set1AtHl | .set2AtHl | .set3AtHl | .set4AtHl | .set5AtHl | .set6AtHl | .set7AtHl => [s.hl]
  | .prefixCb => cbStores (s.bus.read s.pc) s
  | _ => []

/-- The addresses `x` whose byte a write to `a` can change (R61): the banked windows for a control write, the object memory and
0xFF46 for a DMA write (R75), else `a` alone. -/
def reaches (a x : Word) : Prop :=
  if a.toNat < 0x8000 then (0x4000 ≤ x.toNat ∧ x.toNat < 0x8000) ∨ (0xA000 ≤ x.toNat ∧ x.toNat < 0xC000)
  else if a = 0xFF46 then (0xFE00 ≤ x.toNat ∧ x.toNat < 0xFEA0) ∨ x = 0xFF46
  else x = a

/-- An address whose byte the bus keeps as a plain store leaves it (R62): the internal array, but for the DMA register. -/
abbrev PlainAddress (a : Word) : Prop := 0x8000 ≤ a.toNat ∧ ¬(0xA000 ≤ a.toNat ∧ a.toNat < 0xC000) ∧ a ≠ 0xFF46

/-! ## Control state and flags -/

/-- The instructions that write IME (R27). -/
def writesIme (i : Instr) : Bool := i == .ei || i == .di || i == .reti

/-- The instructions that write PC other than by fetching (R26). -/
def writesPc (i : Instr) : Bool :=
  match i with
  | .jpNn _ | .jpNzNn _ | .jpZNn _ | .jpNcNn _ | .jpCNn _ | .jpHl => true
  | .jrE8 _ | .jrNzE8 _ | .jrZE8 _ | .jrNcE8 _ | .jrCE8 _ => true
  | .callNn _ | .callNzNn _ | .callZNn _ | .callNcNn _ | .callCNn _ => true
  | .ret | .retNz | .retZ | .retNc | .retC | .reti => true
  | .rst00 | .rst08 | .rst10 | .rst18 | .rst20 | .rst28 | .rst30 | .rst38 => true
  | _ => false

/-- A CB-page opcode that reads C: `RL` and `RR` (R24). -/
def cbReadsFlags (cb : Byte) : Bool := fieldX cb == 0 && (fieldY cb == ShiftOp.code .rl || fieldY cb == ShiftOp.code .rr)

/-- The instructions that read a flag (R24). -/
def readsFlags (i : Instr) (s : State) : Bool :=
  match i with
  | .jpNzNn _ | .jpZNn _ | .jpNcNn _ | .jpCNn _ | .jrNzE8 _ | .jrZE8 _ | .jrNcE8 _ | .jrCE8 _ => true
  | .callNzNn _ | .callZNn _ | .callNcNn _ | .callCNn _ | .retNz | .retZ | .retNc | .retC => true
  | .adcAB | .adcAC | .adcAD | .adcAE | .adcAH | .adcAL | .adcAAtHl | .adcAA | .adcAN8 _ => true
  | .sbcAB | .sbcAC | .sbcAD | .sbcAE | .sbcAH | .sbcAL | .sbcAAtHl | .sbcAA | .sbcAN8 _ => true
  | .rla | .rra | .daa | .ccf | .pushAf => true
  | .rlB | .rlC | .rlD | .rlE | .rlH | .rlL | .rlAtHl | .rlA => true
  | .rrB | .rrC | .rrD | .rrE | .rrH | .rrL | .rrAtHl | .rrA => true
  | .prefixCb => cbReadsFlags (s.bus.read s.pc)
  | _ => false

/-- The state with another flag byte. -/
def State.withF (s : State) (f : Byte) : State := { s with regs := { s.regs with f := f } }

/-! ## Instruction forms -/

/-- The accumulator operation `op` in its three operand forms (R210), after its fetches: each answers a next state with A and F as
`out` gives them from A, the operand and C, and nothing else changed but PC and the M-cycles. -/
def AccumulatorForms (op : AluOp) (out : Byte → Byte → Bool → AluOut) : Prop :=
  ∀ (s : State) (r : Reg8) (n b : Byte),
    let after (v : Byte) (len cycles : Nat) : State :=
      let o := out s.regs.a v s.regs.flagC
      { s with
        regs := { s.regs with a := o.a, f := flagByte o.z o.n o.h o.c }
        pc := s.pc + BitVec.ofNat 16 len
        mCycle := s.mCycle + cycles }
    exec (decodeAt (2#2 ++ op.code ++ r.code) n b) (s.advance 1) = .next (after (s.regs.get r) 1 1) ∧
      exec (decodeAt (2#2 ++ op.code ++ slotHL) n b) (s.advance 1) = .next (after (s.bus.read s.hl) 1 2) ∧
      exec (decodeAt (3#2 ++ op.code ++ 6#3) n b) (s.advance 2) = .next (after n 2 2)

/-- The CB-page rotate or shift `op` in its two operand forms (R264), after its fetches: each answers a next state with the result
written back to the slot and F as given, `out` giving the result and the bit moved into C from the operand and C. -/
def ShiftForms (op : ShiftOp) (out : Byte → Bool → Byte × Bool) : Prop :=
  ∀ (s : State) (r : Reg8) (b : Byte),
    let at_ (v : Byte) : Byte × Byte := let p := out v s.regs.flagC; (p.1, flagByte (p.1 == 0x00) false false p.2)
    exec (decodeAt 0xCB (0#2 ++ op.code ++ r.code) b) (s.advance 2) = .next
        { s with
          regs := { s.regs.set r (at_ (s.regs.get r)).1 with f := (at_ (s.regs.get r)).2 }
          pc := s.pc + 2
          mCycle := s.mCycle + 2 } ∧
      exec (decodeAt 0xCB (0#2 ++ op.code ++ slotHL) b) (s.advance 2) = .next
        { s with
          regs := { s.regs with f := (at_ (s.bus.read s.hl)).2 }
          bus := s.bus.write s.hl (at_ (s.bus.read s.hl)).1
          pc := s.pc + 2
          mCycle := s.mCycle + 4 }

end Sys2Proof.Machine
end

