-- ==== Sys2Proof/Certificates/Slice0/Obligations.lean ====
section
/-! DEFINITION. The statements for the provers. In the statements about an instruction, `decodeAt` is given the opcode byte
written from its fields (R111), so that a statement says the encoding too, and `exec` runs the body in the state after the fetches
(`State.advance`), so that PC and M-cycles are those of the whole instruction. -/

open Sys2Proof Sys2Proof.Machine

/-! ## Encoding -/

/-- R122, R123, R124, R131: decoding the encoding of a well-formed instruction gives it back, for every instruction and operand. -/
def Obligations.DecodeEncodeAgree : Prop := ∀ i : Instr, i.wellFormed = true → decode (encode i) = .ok i

/-- R122: what the decoder reads from bytes is well-formed, and the bytes begin with its encoding: each byte sequence has one
meaning. -/
def Obligations.DecodedBytesAreTheEncoding : Prop :=
  ∀ (bytes : List Byte) (i : Instr), decode bytes = .ok i → i.wellFormed = true ∧ ∃ rest, bytes = encode i ++ rest

/-- Words of each family written out from the grids of R123 and R124. -/
def Obligations.DecodedWords : Prop :=
  decode [0b01111000#8] = .ok .ldAB ∧ decode [0b00110110#8, 0x42] = .ok (.ldAtHlN8 0x42) ∧
    decode [0b00110001#8, 0xFE, 0xFF] = .ok (.ldSpNn 0xFFFE) ∧ decode [0b11110101#8] = .ok .pushAf ∧
    decode [0b10011110#8] = .ok .sbcAAtHl ∧ decode [0b11111110#8, 0x07] = .ok (.cpN8 0x07) ∧
    decode [0b00101001#8] = .ok .addHlHl ∧ decode [0b00010111#8] = .ok .rla ∧
    decode [0xCB, 0b00110111#8] = .ok .swapA ∧ decode [0xCB, 0b01111110#8] = .ok .bit7AtHl ∧
    decode [0b11010100#8, 0x00, 0x40] = .ok (.callNcNn 0x4000) ∧ decode [0b01110110#8] = .ok .halt ∧
    decode [0b00010000#8, 0x00] = .ok .stop ∧ decode [0b00010000#8, 0x01] = .ok (.illegalStop 0x01) ∧
    decode [0b11010011#8] = .ok .illegalD3

/-! ## Undefined encodings and STOP -/

/-- R125, R316: the eleven illegal opcodes record `IllegalOpcode(op, PC − 1)`, and no other opcode's instruction raises it
(the recorded fields and the state left are the spec's decision, 92 D35). -/
def Obligations.IllegalOpcodes : Prop :=
  ∀ (op b1 b2 : Byte) (s : State),
    (op ∈ ([0xD3, 0xDB, 0xDD, 0xE3, 0xE4, 0xEB, 0xEC, 0xED, 0xF4, 0xFC, 0xFD] : List Byte) →
      exec (decodeAt op b1 b2) (s.advance 1) =
        .next { s with pc := s.pc + 1, mCycle := s.mCycle + 1, fault := some (.illegalOpcode op s.pc) }) ∧
    (op ∉ ([0xD3, 0xDB, 0xDD, 0xE3, 0xE4, 0xEB, 0xEC, 0xED, 0xF4, 0xFC, 0xFD] : List Byte) → s.fault = none →
      ∀ (t : State) (o : Byte) (a : Word), exec (decodeAt op b1 b2) (s.advance (instrLength op)) = .next t →
        t.fault ≠ some (.illegalOpcode o a))

/-- R126, R312: 0x10 0x00 is STOP, which does nothing beyond consuming the pair; 0x10 with another byte raises IllegalStop
(2 M-cycles and the fault's record are the spec's decisions, 92 D19, D35). -/
def Obligations.StopPair : Prop :=
  ∀ (b1 b2 : Byte) (s : State),
    exec (decodeAt 0x10 b1 b2) (s.advance 2) =
      .next { s with
        pc := s.pc + 2
        mCycle := s.mCycle + 2
        fault := if b1 = 0x00 then s.fault else some (.illegalStop b1 s.pc) }

/-! ## 8-bit loads -/

/-- R170, R171, R172: `LD r,r'`, `LD r,n8`, `LD r,(HL)`. -/
def Obligations.LdToRegister : Prop :=
  ∀ (d r : Reg8) (n b : Byte) (s : State),
    exec (decodeAt (1#2 ++ d.code ++ r.code) n b) (s.advance 1) =
        .next { s with regs := s.regs.set d (s.regs.get r), pc := s.pc + 1, mCycle := s.mCycle + 1 } ∧
      exec (decodeAt (0#2 ++ d.code ++ 6#3) n b) (s.advance 2) =
        .next { s with regs := s.regs.set d n, pc := s.pc + 2, mCycle := s.mCycle + 2 } ∧
      exec (decodeAt (1#2 ++ d.code ++ 6#3) n b) (s.advance 1) =
        .next { s with regs := s.regs.set d (s.bus.read (s.regs.h ++ s.regs.l)), pc := s.pc + 1, mCycle := s.mCycle + 2 }

/-- R173, R174: `LD (HL),r` and `LD (HL),n8` store at HL through the bus. -/
def Obligations.LdToHl : Prop :=
  ∀ (r : Reg8) (n b : Byte) (s : State),
    exec (decodeAt (1#2 ++ 6#3 ++ r.code) n b) (s.advance 1) =
        .next { s with
          bus := s.bus.write (s.regs.h ++ s.regs.l) (s.regs.get r)
          pc := s.pc + 1
          mCycle := s.mCycle + 2 } ∧
      exec (decodeAt 0x36 n b) (s.advance 2) =
        .next { s with bus := s.bus.write (s.regs.h ++ s.regs.l) n, pc := s.pc + 2, mCycle := s.mCycle + 3 }

/-- R175, R176, R179, R181, R183, R185, R186: the loads of A through a pointer; `(HL+)` and `(HL−)` use the old HL (R150). -/
def Obligations.LdAFromPointer : Prop :=
  ∀ (n b : Byte) (s : State),
    let hl : Word := s.regs.h ++ s.regs.l
    exec (decodeAt 0x0A n b) (s.advance 1) =
        .next { s with
          regs := { s.regs with a := s.bus.read (s.regs.b ++ s.regs.c) }
          pc := s.pc + 1
          mCycle := s.mCycle + 2 } ∧
      exec (decodeAt 0x1A n b) (s.advance 1) =
        .next { s with
          regs := { s.regs with a := s.bus.read (s.regs.d ++ s.regs.e) }
          pc := s.pc + 1
          mCycle := s.mCycle + 2 } ∧
      exec (decodeAt 0xFA n b) (s.advance 3) =
        .next { s with regs := { s.regs with a := s.bus.read (b ++ n) }, pc := s.pc + 3, mCycle := s.mCycle + 4 } ∧
      exec (decodeAt 0xF0 n b) (s.advance 2) =
        .next { s with
          regs := { s.regs with a := s.bus.read (0xFF00 + n.zeroExtend 16) }
          pc := s.pc + 2
          mCycle := s.mCycle + 3 } ∧
      exec (decodeAt 0xF2 n b) (s.advance 1) =
        .next { s with
          regs := { s.regs with a := s.bus.read (0xFF00 + s.regs.c.zeroExtend 16) }
          pc := s.pc + 1
          mCycle := s.mCycle + 2 } ∧
      exec (decodeAt 0x2A n b) (s.advance 1) =
        .next { s with
          regs := { s.regs with a := s.bus.read hl, h := hiByte (hl + 1), l := loByte (hl + 1) }
          pc := s.pc + 1
          mCycle := s.mCycle + 2 } ∧
      exec (decodeAt 0x3A n b) (s.advance 1) =
        .next { s with
          regs := { s.regs with a := s.bus.read hl, h := hiByte (hl - 1), l := loByte (hl - 1) }
          pc := s.pc + 1
          mCycle := s.mCycle + 2 }

/-- R177, R178, R180, R182, R184, R187, R188: the stores of A through a pointer. -/
def Obligations.LdPointerFromA : Prop :=
  ∀ (n b : Byte) (s : State),
    let hl : Word := s.regs.h ++ s.regs.l
    exec (decodeAt 0x02 n b) (s.advance 1) =
        .next { s with bus := s.bus.write (s.regs.b ++ s.regs.c) s.regs.a, pc := s.pc + 1, mCycle := s.mCycle + 2 } ∧
      exec (decodeAt 0x12 n b) (s.advance 1) =
        .next { s with bus := s.bus.write (s.regs.d ++ s.regs.e) s.regs.a, pc := s.pc + 1, mCycle := s.mCycle + 2 } ∧
      exec (decodeAt 0xEA n b) (s.advance 3) =
        .next { s with bus := s.bus.write (b ++ n) s.regs.a, pc := s.pc + 3, mCycle := s.mCycle + 4 } ∧
      exec (decodeAt 0xE0 n b) (s.advance 2) =
        .next { s with bus := s.bus.write (0xFF00 + n.zeroExtend 16) s.regs.a, pc := s.pc + 2, mCycle := s.mCycle + 3 } ∧
      exec (decodeAt 0xE2 n b) (s.advance 1) =
        .next { s with bus := s.bus.write (0xFF00 + s.regs.c.zeroExtend 16) s.regs.a, pc := s.pc + 1, mCycle := s.mCycle + 2 } ∧
      exec (decodeAt 0x22 n b) (s.advance 1) =
        .next { s with
          bus := s.bus.write hl s.regs.a
          regs := { s.regs with h := hiByte (hl + 1), l := loByte (hl + 1) }
          pc := s.pc + 1
          mCycle := s.mCycle + 2 } ∧
      exec (decodeAt 0x32 n b) (s.advance 1) =
        .next { s with
          bus := s.bus.write hl s.regs.a
          regs := { s.regs with h := hiByte (hl - 1), l := loByte (hl - 1) }
          pc := s.pc + 1
          mCycle := s.mCycle + 2 }

/-! ## 16-bit loads and the stack -/

/-- R190, R191, R192: `LD rr,nn`, `LD (nn),SP` (low byte at the lower address, written first: 92 D24), `LD SP,HL`. -/
def Obligations.LdWords : Prop :=
  ∀ (p : Pair) (n b : Byte) (s : State),
    let t := s.set16 p.reg16 (b ++ n)
    exec (decodeAt (0#2 ++ p.code ++ 0#1 ++ 1#3) n b) (s.advance 3) =
        .next { t with pc := s.pc + 3, mCycle := s.mCycle + 3 } ∧
      exec (decodeAt 0x08 n b) (s.advance 3) =
        .next { s with
          bus := (s.bus.write (b ++ n) (loByte s.sp)).write ((b ++ n) + 1) (hiByte s.sp)
          pc := s.pc + 3
          mCycle := s.mCycle + 5 } ∧
      exec (decodeAt 0xF9 n b) (s.advance 1) =
        .next { s with sp := s.regs.h ++ s.regs.l, pc := s.pc + 1, mCycle := s.mCycle + 2 }

/-- R143, R193, R253: `LD HL,SP+e8` and `ADD SP,e8`: the sum with the signed offset, Z = N = 0, H and C the carries of the unsigned
low-byte sum. The 4 M-cycles of `ADD SP,e8` are the spec's decision 92 D33. -/
def Obligations.SpPlusOffset : Prop :=
  ∀ (e b : Byte) (s : State),
    let sum : Word := BitVec.ofInt 16 ((s.sp.toNat : Int) + e.toInt)
    let f := flagByte false false (decide (s.sp.toNat % 16 + e.toNat % 16 ≥ 16)) (decide (s.sp.toNat % 256 + e.toNat ≥ 256))
    exec (decodeAt 0xF8 e b) (s.advance 2) =
        .next { s with
          regs := { s.regs with h := hiByte sum, l := loByte sum, f := f }
          pc := s.pc + 2
          mCycle := s.mCycle + 3 } ∧
      exec (decodeAt 0xE8 e b) (s.advance 2) =
        .next { s with sp := sum, regs := { s.regs with f := f }, pc := s.pc + 2, mCycle := s.mCycle + 4 }

/-- R12, R194, R195: `PUSH rr` writes the high byte at SP − 1, then the low byte at SP − 2; `POP rr` reads the low byte at SP and the
high byte at SP + 1; POP AF stores F with its low nibble 0. The order of the two accesses is the
spec's decision 92 D24. -/
def Obligations.PushAndPop : Prop :=
  ∀ (p : StackPair) (n b : Byte) (s : State),
    let v := s.get16 p.reg16
    let w : Word := s.bus.read (s.sp + 1) ++ s.bus.read s.sp
    let t := s.set16 p.reg16 w
    exec (decodeAt (3#2 ++ p.code ++ 0#1 ++ 5#3) n b) (s.advance 1) =
        .next { s with
          bus := (s.bus.write (s.sp - 1) (hiByte v)).write (s.sp - 2) (loByte v)
          sp := s.sp - 2
          pc := s.pc + 1
          mCycle := s.mCycle + 4 } ∧
      exec (decodeAt (3#2 ++ p.code ++ 0#1 ++ 1#3) n b) (s.advance 1) =
        .next { t with sp := s.sp + 2, pc := s.pc + 1, mCycle := s.mCycle + 3 } ∧
      t.regs.f = (if p = .af then loByte w &&& 0xF0 else s.regs.f)

/-- The source's invariant 4: after PUSH rr and POP rr the pair and SP are as before, whatever pair, when the two stack bytes are
plain memory. -/
def Obligations.PopUndoesPush : Prop :=
  ∀ (push pop : Instr) (r : Reg16) (s t u : State),
    (push, pop, r) ∈ [(Instr.pushBc, Instr.popBc, Reg16.bc), (.pushDe, .popDe, .de), (.pushHl, .popHl, .hl), (.pushAf, .popAf, .af)] →
    s.Sound → PlainAddress (s.sp - 1) → PlainAddress (s.sp - 2) →
    exec push s = .next t → exec pop t = .next u → u.get16 r = s.get16 r ∧ u.sp = s.sp ∧ u.regs = s.regs

/-! ## 8-bit arithmetic and logic -/

/-- R140, R211, R212, R213. -/
def Obligations.AddResult : Prop :=
  AccumulatorForms .add fun a v _ =>
    { a := BitVec.ofNat 8 (a.toNat + v.toNat)
      z := decide ((a.toNat + v.toNat) % 256 = 0)
      n := false
      h := decide (a.toNat % 16 + v.toNat % 16 ≥ 16)
      c := decide (a.toNat + v.toNat ≥ 256) }

/-- R144, R214, R215, R216: the two-stage addition has the flags of the one-stage sum (an equality the spec derives, R144). -/
def Obligations.AdcResult : Prop :=
  AccumulatorForms .adc fun a v cin =>
    { a := BitVec.ofNat 8 (a.toNat + v.toNat + cin.toNat)
      z := decide ((a.toNat + v.toNat + cin.toNat) % 256 = 0)
      n := false
      h := decide (a.toNat % 16 + v.toNat % 16 + cin.toNat ≥ 16)
      c := decide (a.toNat + v.toNat + cin.toNat ≥ 256) }

/-- R141, R217, R218, R219. -/
def Obligations.SubResult : Prop :=
  AccumulatorForms .sub fun a v _ =>
    { a := BitVec.ofInt 8 ((a.toNat : Int) - v.toNat)
      z := decide (a = v)
      n := true
      h := decide (a.toNat % 16 < v.toNat % 16)
      c := decide (a.toNat < v.toNat) }

/-- R144, R220, R221, R222: the two-stage subtraction has the flags of the one-stage difference (an equality the spec derives, R144). -/
def Obligations.SbcResult : Prop :=
  AccumulatorForms .sbc fun a v cin =>
    { a := BitVec.ofInt 8 ((a.toNat : Int) - v.toNat - cin.toNat)
      z := decide (((a.toNat : Int) - v.toNat - cin.toNat) % 256 = 0)
      n := true
      h := decide (a.toNat % 16 < v.toNat % 16 + cin.toNat)
      c := decide (a.toNat < v.toNat + cin.toNat) }

/-- R223 to R231: AND (H = 1), XOR and OR, bit by bit, with N = C = 0. -/
def Obligations.LogicResult : Prop :=
  AccumulatorForms .and (fun a v _ => { a := a &&& v, z := decide (a &&& v = 0), n := false, h := true, c := false }) ∧
    AccumulatorForms .xor (fun a v _ => { a := a ^^^ v, z := decide (a = v), n := false, h := false, c := false }) ∧
    AccumulatorForms .or
      (fun a v _ => { a := a ||| v, z := decide (a = 0 ∧ v = 0), n := false, h := false, c := false })

/-- R232, R233, R234: the flags of SUB, A unchanged. -/
def Obligations.CpResult : Prop :=
  AccumulatorForms .cp fun a v _ =>
    { a := a
      z := decide (a = v)
      n := true
      h := decide (a.toNat % 16 < v.toNat % 16)
      c := decide (a.toNat < v.toNat) }

/-- R235, R236, R237, R238: INC and DEC of a register and of the byte at HL; C unchanged. -/
def Obligations.IncDecByte : Prop :=
  ∀ (r : Reg8) (n b : Byte) (s : State),
    let hl : Word := s.regs.h ++ s.regs.l
    let incF (v : Byte) := flagByte (decide (v = 0xFF)) false (decide (v.toNat % 16 = 15)) (s.regs.f.getLsbD 4)
    let decF (v : Byte) := flagByte (decide (v = 0x01)) true (decide (v.toNat % 16 = 0)) (s.regs.f.getLsbD 4)
    exec (decodeAt (0#2 ++ r.code ++ 4#3) n b) (s.advance 1) =
        .next { s with
          regs := { s.regs.set r (s.regs.get r + 1) with f := incF (s.regs.get r) }
          pc := s.pc + 1
          mCycle := s.mCycle + 1 } ∧
      exec (decodeAt (0#2 ++ r.code ++ 5#3) n b) (s.advance 1) =
        .next { s with
          regs := { s.regs.set r (s.regs.get r - 1) with f := decF (s.regs.get r) }
          pc := s.pc + 1
          mCycle := s.mCycle + 1 } ∧
      exec (decodeAt 0x34 n b) (s.advance 1) =
        .next { s with
          bus := s.bus.write hl (s.bus.read hl + 1)
          regs := { s.regs with f := incF (s.bus.read hl) }
          pc := s.pc + 1
          mCycle := s.mCycle + 3 } ∧
      exec (decodeAt 0x35 n b) (s.advance 1) =
        .next { s with
          bus := s.bus.write hl (s.bus.read hl - 1)
          regs := { s.regs with f := decF (s.bus.read hl) }
          pc := s.pc + 1
          mCycle := s.mCycle + 3 }

/-- R239: DAA, both conditions of the addition branch testing A as it was (the spec's decision 92 D18). -/
def Obligations.DaaResult : Prop :=
  ∀ (n b : Byte) (s : State),
    let a := s.regs.a.toNat
    let low : Nat := if s.regs.flagN then (if s.regs.flagH then 6 else 0) else if s.regs.flagH ∨ a % 16 > 9 then 6 else 0
    let high : Nat := if s.regs.flagN then (if s.regs.flagC then 96 else 0) else if s.regs.flagC ∨ a > 0x99 then 96 else 0
    let res : Nat := if s.regs.flagN then (a + 256 - low - high) % 256 else (a + low + high) % 256
    exec (decodeAt 0x27 n b) (s.advance 1) =
      .next { s with
        regs :=
          { s.regs with
            a := BitVec.ofNat 8 res
            f := flagByte (decide (res = 0)) s.regs.flagN false (if s.regs.flagN then s.regs.flagC else decide (high = 96)) }
        pc := s.pc + 1
        mCycle := s.mCycle + 1 }

/-- What DAA is for (R211, R217, R239): after ADD of two packed decimal bytes it gives the decimal sum mod 100 with C the decimal
carry, and after SUB the decimal difference mod 100 with C the decimal borrow. `10·(x/10) + x%10` packed is `16·(x/10) + x%10`. -/
def Obligations.DaaIsDecimal : Prop :=
  ∀ (x y : Nat) (s t u : State), x < 100 → y < 100 → s.regs.a = BitVec.ofNat 8 (16 * (x / 10) + x % 10) →
    s.regs.b = BitVec.ofNat 8 (16 * (y / 10) + y % 10) → exec .daa t = .next u →
    (exec .addAB s = .next t →
      u.regs.a = BitVec.ofNat 8 (16 * ((x + y) % 100 / 10) + (x + y) % 10) ∧ u.regs.flagC = decide (x + y ≥ 100)) ∧
    (exec .subB s = .next t →
      u.regs.a = BitVec.ofNat 8 (16 * ((x + 100 - y) % 100 / 10) + (x + 100 - y) % 10) ∧ u.regs.flagC = decide (x < y))

/-- R240, R241, R242: CPL, SCF, CCF. -/
def Obligations.FlagInstructions : Prop :=
  ∀ (n b : Byte) (s : State),
    exec (decodeAt 0x2F n b) (s.advance 1) =
        .next { s with
          regs := { s.regs with a := 255 - s.regs.a, f := flagByte s.regs.flagZ true true s.regs.flagC }
          pc := s.pc + 1
          mCycle := s.mCycle + 1 } ∧
      exec (decodeAt 0x37 n b) (s.advance 1) =
        .next { s with
          regs := { s.regs with f := flagByte s.regs.flagZ false false true }
          pc := s.pc + 1
          mCycle := s.mCycle + 1 } ∧
      exec (decodeAt 0x3F n b) (s.advance 1) =
        .next { s with
          regs := { s.regs with f := flagByte s.regs.flagZ false false (!s.regs.flagC) }
          pc := s.pc + 1
          mCycle := s.mCycle + 1 }

/-! ## 16-bit arithmetic -/

/-- R142, R250: `ADD HL,rr`: N = 0, H the carry out of bit 11, C the carry out of bit 15, Z unchanged. -/
def Obligations.AddToHl : Prop :=
  ∀ (p : Pair) (n b : Byte) (s : State),
    let x := (s.get16 .hl).toNat
    let y := (s.get16 p.reg16).toNat
    let sum : Word := BitVec.ofNat 16 (x + y)
    exec (decodeAt (0#2 ++ p.code ++ 1#1 ++ 1#3) n b) (s.advance 1) =
      .next { s with
        regs :=
          { s.regs with
            h := hiByte sum
            l := loByte sum
            f := flagByte s.regs.flagZ false (decide (x % 4096 + y % 4096 ≥ 4096)) (decide (x + y ≥ 65536)) }
        pc := s.pc + 1
        mCycle := s.mCycle + 2 }

/-- R251, R252: `INC rr` and `DEC rr`, mod 2^16, with no flag. -/
def Obligations.IncDecWord : Prop :=
  ∀ (p : Pair) (n b : Byte) (s : State),
    let up := s.set16 p.reg16 (s.get16 p.reg16 + 1)
    let down := s.set16 p.reg16 (s.get16 p.reg16 - 1)
    exec (decodeAt (0#2 ++ p.code ++ 0#1 ++ 3#3) n b) (s.advance 1) =
        .next { up with pc := s.pc + 1, mCycle := s.mCycle + 2 } ∧
      exec (decodeAt (0#2 ++ p.code ++ 1#1 ++ 3#3) n b) (s.advance 1) =
        .next { down with pc := s.pc + 1, mCycle := s.mCycle + 2 } ∧
      up.regs.f = s.regs.f ∧ down.regs.f = s.regs.f ∧
      up.get16 p.reg16 = s.get16 p.reg16 + 1 ∧ down.get16 p.reg16 = s.get16 p.reg16 - 1

/-! ## Rotates, shifts, bits -/

/-- R260, R261, R262, R263: RLCA, RRCA, RLA, RRA: the bits of A move by one place, Z = N = H = 0. -/
def Obligations.RotateAccumulator : Prop :=
  ∀ (n b : Byte) (s : State),
    let a := s.regs.a
    let after (res : Byte) (c : Bool) : State :=
      { s with regs := { s.regs with a := res, f := flagByte false false false c }, pc := s.pc + 1, mCycle := s.mCycle + 1 }
    exec (decodeAt 0x07 n b) (s.advance 1) = .next (after (a.rotateLeft 1) (a.getLsbD 7)) ∧
      exec (decodeAt 0x0F n b) (s.advance 1) = .next (after (a.rotateRight 1) (a.getLsbD 0)) ∧
      exec (decodeAt 0x17 n b) (s.advance 1) =
        .next (after (a.extractLsb' 0 7 ++ BitVec.ofBool s.regs.flagC) (a.getLsbD 7)) ∧
      exec (decodeAt 0x1F n b) (s.advance 1) =
        .next (after (BitVec.ofBool s.regs.flagC ++ a.extractLsb' 1 7) (a.getLsbD 0))

/-- R265 to R280, the group of R264: RLC, RRC, RL, RR, SLA, SRA, SWAP and SRL, register and (HL) forms: result written back, Z from
it, N = H = 0, C the bit shifted out (0 for SWAP). -/
def Obligations.CbShifts : Prop :=
  ShiftForms .rlc (fun v _ => (v.rotateLeft 1, v.getLsbD 7)) ∧ ShiftForms .rrc (fun v _ => (v.rotateRight 1, v.getLsbD 0)) ∧
    ShiftForms .rl (fun v c => (v.extractLsb' 0 7 ++ BitVec.ofBool c, v.getLsbD 7)) ∧
    ShiftForms .rr (fun v c => (BitVec.ofBool c ++ v.extractLsb' 1 7, v.getLsbD 0)) ∧
    ShiftForms .sla (fun v _ => (BitVec.ofNat 8 (2 * v.toNat), v.getLsbD 7)) ∧
    ShiftForms .sra (fun v _ => (v.sshiftRight 1, v.getLsbD 0)) ∧
    ShiftForms .swap (fun v _ => (v.extractLsb' 0 4 ++ v.extractLsb' 4 4, false)) ∧
    ShiftForms .srl (fun v _ => (BitVec.ofNat 8 (v.toNat / 2), v.getLsbD 0))

/-- R285, R286: `BIT b,r` and `BIT b,(HL)`: Z is the complement of the bit, N = 0, H = 1, C unchanged; nothing else is written. -/
def Obligations.BitTest : Prop :=
  ∀ (k : BitVec 3) (r : Reg8) (b : Byte) (s : State),
    exec (decodeAt 0xCB (1#2 ++ k ++ r.code) b) (s.advance 2) =
        .next { s with
          regs := { s.regs with f := flagByte (!(s.regs.get r).getLsbD k.toNat) false true s.regs.flagC }
          pc := s.pc + 2
          mCycle := s.mCycle + 2 } ∧
      exec (decodeAt 0xCB (1#2 ++ k ++ 6#3) b) (s.advance 2) =
        .next { s with
          regs :=
            { s.regs with
              f := flagByte (!(s.bus.read (s.regs.h ++ s.regs.l)).getLsbD k.toNat) false true s.regs.flagC }
          pc := s.pc + 2
          mCycle := s.mCycle + 3 }

/-- R287, R288, R289, R290: RES and SET write back the byte with bit `k` 0 or 1 and every other bit as it was; no flag. -/
def Obligations.BitWrite : Prop :=
  ∀ (k : BitVec 3) (r : Reg8) (b : Byte) (s : State), ∃ cleared set_ : Byte → Byte,
    (∀ (v : Byte) (j : Nat), (cleared v).getLsbD j = (v.getLsbD j && decide (j ≠ k.toNat))) ∧
    (∀ (v : Byte) (j : Nat), (set_ v).getLsbD j = (v.getLsbD j || decide (j = k.toNat))) ∧
    exec (decodeAt 0xCB (2#2 ++ k ++ r.code) b) (s.advance 2) =
      .next { s with regs := s.regs.set r (cleared (s.regs.get r)), pc := s.pc + 2, mCycle := s.mCycle + 2 } ∧
    exec (decodeAt 0xCB (2#2 ++ k ++ 6#3) b) (s.advance 2) =
      .next { s with
        bus := s.bus.write (s.regs.h ++ s.regs.l) (cleared (s.bus.read (s.regs.h ++ s.regs.l)))
        pc := s.pc + 2
        mCycle := s.mCycle + 4 } ∧
    exec (decodeAt 0xCB (3#2 ++ k ++ r.code) b) (s.advance 2) =
      .next { s with regs := s.regs.set r (set_ (s.regs.get r)), pc := s.pc + 2, mCycle := s.mCycle + 2 } ∧
    exec (decodeAt 0xCB (3#2 ++ k ++ 6#3) b) (s.advance 2) =
      .next { s with
        bus := s.bus.write (s.regs.h ++ s.regs.l) (set_ (s.bus.read (s.regs.h ++ s.regs.l)))
        pc := s.pc + 2
        mCycle := s.mCycle + 4 }

/-- R128, R315: the row PREFIX CB, run after its own byte, fetches the next byte and is the CB-page instruction of it, with
nothing between (92 D37). That memory's 0xCB is decoded with its second byte is the model's choice (log 8). -/
def Obligations.PrefixIsCbPage : Prop :=
  ∀ (s : State) (b : Byte), (∃ t, exec .prefixCb s = .next t) ∧
    exec .prefixCb (s.advance 1) = exec (decodeAt 0xCB (s.bus.read (s.pc + 1)) b) (s.advance 2)

/-! ## Control transfer -/

/-- R153, R296, R297, R298, R299, R300: the jumps, taken and not taken. -/
def Obligations.Jumps : Prop :=
  ∀ (cc : Cond) (n b : Byte) (s : State),
    let holds := match cc with
      | .nz => s.regs.f.getLsbD 7 = false
      | .z => s.regs.f.getLsbD 7 = true
      | .nc => s.regs.f.getLsbD 4 = false
      | .c => s.regs.f.getLsbD 4 = true
    let near : Word := BitVec.ofInt 16 ((s.pc.toNat : Int) + 2 + n.toInt)
    exec (decodeAt 0xC3 n b) (s.advance 3) = .next { s with pc := b ++ n, mCycle := s.mCycle + 4 } ∧
      (holds → exec (decodeAt (3#2 ++ 0#1 ++ cc.code ++ 2#3) n b) (s.advance 3) =
        .next { s with pc := b ++ n, mCycle := s.mCycle + 4 }) ∧
      (¬holds → exec (decodeAt (3#2 ++ 0#1 ++ cc.code ++ 2#3) n b) (s.advance 3) =
        .next { s with pc := s.pc + 3, mCycle := s.mCycle + 3 }) ∧
      exec (decodeAt 0xE9 n b) (s.advance 1) = .next { s with pc := s.regs.h ++ s.regs.l, mCycle := s.mCycle + 1 } ∧
      exec (decodeAt 0x18 n b) (s.advance 2) = .next { s with pc := near, mCycle := s.mCycle + 3 } ∧
      (holds → exec (decodeAt (0#2 ++ 1#1 ++ cc.code ++ 0#3) n b) (s.advance 2) =
        .next { s with pc := near, mCycle := s.mCycle + 3 }) ∧
      (¬holds → exec (decodeAt (0#2 ++ 1#1 ++ cc.code ++ 0#3) n b) (s.advance 2) =
        .next { s with pc := s.pc + 2, mCycle := s.mCycle + 2 })

/-- R301, R302, R306: CALL, taken and not taken, and RST: the address after the instruction is pushed, high byte at SP − 1
(written first: 92 D24). -/
def Obligations.CallsAndRestarts : Prop :=
  ∀ (cc : Cond) (y : BitVec 3) (n b : Byte) (s : State),
    let holds := condHolds cc s.regs
    let pushed (w : Word) : Bus := (s.bus.write (s.sp - 1) (hiByte w)).write (s.sp - 2) (loByte w)
    let called : State := { s with bus := pushed (s.pc + 3), sp := s.sp - 2, pc := b ++ n, mCycle := s.mCycle + 6 }
    exec (decodeAt 0xCD n b) (s.advance 3) = .next called ∧
      exec (decodeAt (3#2 ++ 0#1 ++ cc.code ++ 4#3) n b) (s.advance 3) =
        .next (if holds then called else { s with pc := s.pc + 3, mCycle := s.mCycle + 3 }) ∧
      exec (decodeAt (3#2 ++ y ++ 7#3) n b) (s.advance 1) =
        .next { s with
          bus := pushed (s.pc + 1)
          sp := s.sp - 2
          pc := BitVec.ofNat 16 (8 * y.toNat)
          mCycle := s.mCycle + 4 }

/-- R303, R304, R305: RET, RET cc taken and not taken, RETI, which sets IME. -/
def Obligations.Returns : Prop :=
  ∀ (cc : Cond) (n b : Byte) (s : State),
    let holds := condHolds cc s.regs
    let w : Word := s.bus.read (s.sp + 1) ++ s.bus.read s.sp
    exec (decodeAt 0xC9 n b) (s.advance 1) = .next { s with pc := w, sp := s.sp + 2, mCycle := s.mCycle + 4 } ∧
      exec (decodeAt (3#2 ++ 0#1 ++ cc.code ++ 0#3) n b) (s.advance 1) =
        .next (if holds then { s with pc := w, sp := s.sp + 2, mCycle := s.mCycle + 5 }
          else { s with pc := s.pc + 1, mCycle := s.mCycle + 2 }) ∧
      exec (decodeAt 0xD9 n b) (s.advance 1) =
        .next { s with pc := w, sp := s.sp + 2, mCycle := s.mCycle + 4, ime := true }

/-! ## System instructions -/

/-- R310, R311, R313, R314: NOP, HALT, DI, EI; DI and EI act at once (92 D20), HALT leaves PC past it (92 D21). -/
def Obligations.SystemInstructions : Prop :=
  ∀ (n b : Byte) (s : State),
    exec (decodeAt 0x00 n b) (s.advance 1) = .next { s with pc := s.pc + 1, mCycle := s.mCycle + 1 } ∧
      exec (decodeAt 0x76 n b) (s.advance 1) = .next { s with halt := true, pc := s.pc + 1, mCycle := s.mCycle + 1 } ∧
      exec (decodeAt 0xF3 n b) (s.advance 1) = .next { s with ime := false, pc := s.pc + 1, mCycle := s.mCycle + 1 } ∧
      exec (decodeAt 0xFB n b) (s.advance 1) = .next { s with ime := true, pc := s.pc + 1, mCycle := s.mCycle + 1 }

/-! ## Frames over all instructions -/

/-- R61, R62: an instruction changes no byte that its own stores cannot reach; one that stores nothing leaves the whole bus. -/
def Obligations.ExecMemoryFrame : Prop :=
  ∀ (i : Instr) (s t : State), exec i s = .next t →
    (storesOf i s = [] → t.bus = s.bus) ∧
      ∀ x : Word, (∀ a ∈ storesOf i s, ¬reaches a x) → t.bus.read x = s.bus.read x

/-- R26, R27, R28, R30, R31, R32, R85: what the bodies of the instructions never write. -/
def Obligations.ExecControlFrame : Prop :=
  ∀ (i : Instr) (s t : State), exec i s = .next t →
    (writesIme i = false → t.ime = s.ime) ∧ (i ≠ .halt → t.halt = s.halt) ∧
      (writesPc i = false → t.pc = if i = .prefixCb then s.pc + 1 else s.pc) ∧
      t.sysCounter = s.sysCounter ∧ t.exeCounter = s.exeCounter ∧ t.serialBuffer = s.serialBuffer ∧
      t.serialPos = s.serialPos ∧ t.dispatchCost = s.dispatchCost ∧ t.bus.cart = s.bus.cart ∧
      t.bus.disabledRead = s.bus.disabledRead

/-- R24: an instruction that is not among the flag readers does the same whatever F holds, F itself apart. -/
def Obligations.FlagReaders : Prop :=
  ∀ (i : Instr) (s t t' : State) (f : Byte), readsFlags i s = false → exec i s = .next t → exec i (s.withF f) = .next t' →
    t'.withF t.regs.f = t

/-! ## The bus -/

/-- R38, R39, R60, R62, R63, R64, R65: the read decoder, with the bank numbers as sums (bank masking, absent RAM
and the disabled value are the spec's decisions 92 D8 to D11). -/
def Obligations.BusReadDecoder : Prop :=
  ∀ (b : Bus) (x : Word),
    let n := x.toNat
    let rom (i : Nat) : Byte := Memory.read b.cart.rom (i % b.cart.romSize)
    let enabled := b.cart.mapper = .plain ∨ b.ramEnabled = true
    let ramBank : Nat := if b.cart.mapper = .mbc1 ∧ b.bankingMode = true then b.romBankHi.toNat * 0x2000 else 0
    (n < 0x4000 → b.read x = rom n) ∧
      (0x4000 ≤ n → n < 0x8000 → b.cart.mapper = .mbc1 →
        b.read x = rom ((b.romBankHi.toNat * 32 + b.romBankLo.toNat) * 0x4000 + (n - 0x4000))) ∧
      (0x4000 ≤ n → n < 0x8000 → b.cart.mapper = .plain → b.read x = rom n) ∧
      ((0x8000 ≤ n ∧ n < 0xA000) ∨ 0xC000 ≤ n → b.read x = Memory.read b.mem n) ∧
      (0xA000 ≤ n → n < 0xC000 → enabled → b.cart.ramSize ≠ 0 →
        b.read x = Memory.read b.extRam ((ramBank + (n - 0xA000)) % b.cart.ramSize)) ∧
      (0xA000 ≤ n → n < 0xC000 → ¬enabled ∨ b.cart.ramSize = 0 → b.read x = b.disabledRead.byte)

/-- R61, R62, R78: a plain store is read back, and no other address is changed: no region is mirrored onto another
(92 D12, D13). -/
def Obligations.PlainStore : Prop :=
  ∀ (b : Bus) (a x : Word) (v : Byte), b.Sound → PlainAddress a →
    (b.write a v).read x = if x = a then v else b.read x

/-- R63, R73: a store to 0xA000–0xBFFF is read back while external RAM is enabled and present, and is ignored otherwise; no other
address changes (92 D10, D11). -/
def Obligations.ExtRamStore : Prop :=
  ∀ (b : Bus) (a x : Word) (v : Byte), b.Sound → 0xA000 ≤ a.toNat → a.toNat < 0xC000 →
    ((b.cart.mapper = .plain ∨ b.ramEnabled = true) → b.cart.ramSize ≠ 0 →
      (b.write a v).read x = if x = a then v else b.read x) ∧
    ((b.cart.mapper = .mbc1 ∧ b.ramEnabled = false) ∨ b.cart.ramSize = 0 → b.write a v = b)

/-- R70, R71, R72, R74, R76: the MBC1 control writes, and their absence without a mapper (92 D11). -/
def Obligations.Mbc1Control : Prop :=
  ∀ (b : Bus) (a : Word) (v : Byte),
    (b.cart.mapper = .plain → a.toNat < 0x8000 → b.write a v = b) ∧
      (b.cart.mapper = .mbc1 → a.toNat < 0x2000 →
        b.write a v = { b with ramEnabled := decide (v.toNat % 16 = 10) }) ∧
      (b.cart.mapper = .mbc1 → 0x2000 ≤ a.toNat → a.toNat < 0x4000 →
        b.write a v = { b with romBankLo := BitVec.ofNat 5 (if v.toNat % 32 = 0 then 1 else v.toNat % 32) }) ∧
      (b.cart.mapper = .mbc1 → 0x4000 ≤ a.toNat → a.toNat < 0x6000 →
        b.write a v = { b with romBankHi := BitVec.ofNat 2 (v.toNat % 4) }) ∧
      (b.cart.mapper = .mbc1 → 0x6000 ≤ a.toNat → a.toNat < 0x8000 → b.write a v = { b with bankingMode := decide (v ≠ 0) })

/-- R75: a write of `v` to 0xFF46 leaves in the object memory the 160 bytes that page `v` read as before, and `v` at 0xFF46;
no other byte changes. The order of the copy and of the store is the spec's decision 92 D23. -/
def Obligations.DmaCopiesThePage : Prop :=
  ∀ (b : Bus) (v : Byte), b.Sound →
    (∀ k : Nat, k < 160 →
      (b.write 0xFF46 v).read (BitVec.ofNat 16 (0xFE00 + k)) = b.read (BitVec.ofNat 16 (v.toNat * 256 + k))) ∧
    (b.write 0xFF46 v).read 0xFF46 = v ∧
    ∀ x : Word, ¬(0xFE00 ≤ x.toNat ∧ x.toNat < 0xFEA0) → x ≠ 0xFF46 → (b.write 0xFF46 v).read x = b.read x

/-- R61, R69: a bus write changes only the bytes it reaches. -/
def Obligations.BusWriteFrame : Prop :=
  ∀ (b : Bus) (a x : Word) (v : Byte), ¬reaches a x → (b.write a v).read x = b.read x

/-! ## Interrupts -/

/-- R323, R325: the interrupt tick with no pending request, and with IME false: HALT is cleared by a pending request and nothing else
changes (the mask 0x1F is the spec's decision 92 D15). -/
def Obligations.HaltWake : Prop :=
  ∀ s : State,
    let p := s.bus.io 0xFFFF &&& s.bus.io 0xFF0F &&& 0x1F
    (p = 0 → s.interruptTick = (s, false)) ∧
      (p ≠ 0 → s.ime = false → s.interruptTick = ({ s with halt := false }, false)) ∧
      (p ≠ 0 → s.interruptTick.1.halt = false)

/-- R324, R326, R327: with IME true the lowest pending source is dispatched: its request, IME and HALT are cleared, PC is pushed high
byte first through the bus, and PC takes the vector (92 D15, D24). -/
def Obligations.Dispatch : Prop :=
  ∀ (s : State) (i : Fin 5),
    let p := s.bus.io 0xFFFF &&& s.bus.io 0xFF0F &&& 0x1F
    s.ime = true → p.getLsbD i.val = true → (∀ j : Nat, j < i.val → p.getLsbD j = false) →
      s.interruptTick =
        ({ s with
            bus := ((s.bus.setIo 0xFF0F (s.bus.io 0xFF0F &&& ~~~(1#8 <<< i.val))).write (s.sp - 1) (hiByte s.pc)).write
              (s.sp - 2) (loByte s.pc)
            sp := s.sp - 2
            pc := BitVec.ofNat 16 (0x40 + 8 * i.val)
            ime := false
            halt := false }, true)

/-- R328: while IME is false no T-cycle dispatches, so a step dispatches at most once; the tick engine then leaves the registers, SP,
PC, IME and the cartridge, and counts `sys_counter` once for each T-cycle. -/
def Obligations.TicksWithoutIme : Prop :=
  ∀ (s : State) (n : Nat), s.ime = false →
    (s.tcycles n).2 = false ∧ (s.tcycles n).1.ime = false ∧ (s.tcycles n).1.regs = s.regs ∧ (s.tcycles n).1.sp = s.sp ∧
      (s.tcycles n).1.pc = s.pc ∧ (s.tcycles n).1.mCycle = s.mCycle ∧ (s.tcycles n).1.exeCounter = s.exeCounter ∧
      (s.tcycles n).1.sysCounter = s.sysCounter + BitVec.ofNat 16 n ∧
      ∀ x : Word, x ∉ ([0xFF02, 0xFF04, 0xFF05, 0xFF0F] : List Word) → (s.tcycles n).1.bus.read x = s.bus.read x

/-! ## Timer and serial -/

/-- R41, R333: the serial tick (SB kept, SC bit 0 ignored: 92 D28). -/
def Obligations.SerialTick : Prop :=
  ∀ s : State,
    let sc := s.bus.io 0xFF02
    let period : Nat := if sc.toNat % 4 = 0 then 512 else if sc.toNat % 4 = 1 then 256 else if sc.toNat % 4 = 2 then 16 else 8
    (¬(sc.toNat ≥ 128 ∧ s.sysCounter.toNat % period = 0) → s.serialTick = s) ∧
      (sc.toNat ≥ 128 → s.sysCounter.toNat % period = 0 → s.bus.Sound →
        Memory.wf s.serialBuffer = true →
        let t := s.serialTick
        (∀ k : Nat, Memory.read t.serialBuffer k =
          if k = s.serialPos.val then s.bus.io 0xFF01 else Memory.read s.serialBuffer k) ∧
        t.serialPos.val = (s.serialPos.val + 1) % 255 ∧ t.bus.io 0xFF02 = sc &&& 0x7F ∧
        t.bus.io 0xFF0F = s.bus.io 0xFF0F ||| 0x08 ∧
        ∀ k : Nat, k ≠ 0xFF02 → k ≠ 0xFF0F → t.bus.io k = s.bus.io k)

/-- R45, R330, R331: the timer tick: DIV, then TIMA with the reload and the request on overflow, in the same T-cycle (92 D36). -/
def Obligations.TimerTick : Prop :=
  ∀ s : State, s.bus.Sound →
    let tac := s.bus.io 0xFF07
    let tima := s.bus.io 0xFF05
    let period : Nat := if tac.toNat % 4 = 0 then 1024 else if tac.toNat % 4 = 1 then 16 else if tac.toNat % 4 = 2 then 64 else 256
    let due := tac.toNat / 4 % 2 = 1 ∧ s.sysCounter.toNat % period = 0
    let t := s.timerTick
    t.bus.io 0xFF04 = (if s.sysCounter.toNat % 256 = 0 then s.bus.io 0xFF04 + 1 else s.bus.io 0xFF04) ∧
      (¬due → t.bus.io 0xFF05 = tima ∧ t.bus.io 0xFF0F = s.bus.io 0xFF0F) ∧
      (due → tima ≠ 0xFF → t.bus.io 0xFF05 = tima + 1 ∧ t.bus.io 0xFF0F = s.bus.io 0xFF0F) ∧
      (due → tima = 0xFF → t.bus.io 0xFF05 = s.bus.io 0xFF06 ∧ t.bus.io 0xFF0F = s.bus.io 0xFF0F ||| 0x04) ∧
      ∀ k : Nat, k ≠ 0xFF04 → k ≠ 0xFF05 → k ≠ 0xFF0F → t.bus.io k = s.bus.io k

/-- R322, R330, R332: over any run of T-cycles without dispatch, DIV counts the multiples of 256 in (`sys_counter`,
`sys_counter` + n]: exactly one in 256 T-cycles, 64 M-cycles. That the interval leaves out its start and takes in its end is R322's
place for the increment of `sys_counter`, before the timer tick: the spec's decision 92 D16. -/
def Obligations.DivCountsOncePer256 : Prop :=
  ∀ (s : State) (n : Nat), s.bus.Sound → s.ime = false →
    (s.tcycles n).1.bus.io 0xFF04 =
        s.bus.io 0xFF04 + BitVec.ofNat 8 ((s.sysCounter.toNat + n) / 256 - s.sysCounter.toNat / 256) ∧
      (s.tcycles 256).1.bus.io 0xFF04 = s.bus.io 0xFF04 + 1

/-! ## The step -/

/-- R320, R340: a machine that a DecodeFatal has stopped stays as it is (92 D35). -/
def Obligations.FaultIsPermanent : Prop := ∀ (s : State) (d : DecodeFatal), s.fault = some d → step s = .next s

/-- R320: a halted step fetches nothing and spends one M-cycle in the tick engine. -/
def Obligations.HaltedStep : Prop :=
  ∀ s : State, s.fault = none → s.halt = true → step s = .next ({ s with mCycle := 1 } : State).runEngine

/-- R82, R122, R320, R321: a step runs the instruction that the bytes at PC decode to, after the fetches of its length, then counts it
and runs the tick engine; a body that raises DecodeFatal ends the step. -/
def Obligations.StepRunsDecoded : Prop :=
  ∀ (s : State) (i : Instr), s.fault = none → s.halt = false →
    decode [s.bus.read s.pc, s.bus.read (s.pc + 1), s.bus.read (s.pc + 2)] = .ok i →
    ∃ t, exec i { s with pc := s.pc + BitVec.ofNat 16 (encode i).length, mCycle := (encode i).length } = .next t ∧
      step s = .next (if t.fault = none then ({ t with exeCounter := t.exeCounter + 1 } : State).runEngine else t)

/-- R320, R328: the tick engine runs four T-cycles for each M-cycle, and after a dispatch those of `DISPATCH_MCYCLES` too, which it adds
to the step's M-cycles (92 D17). -/
def Obligations.EngineRuns : Prop :=
  ∀ s : State,
    let d : Nat := match s.dispatchCost with
      | .three => 3
      | .five => 5
    let first := s.tcycles (4 * s.mCycle)
    (first.2 = false → s.runEngine = first.1) ∧
      (first.2 = true → s.runEngine = { (first.1.tcycles (4 * d)).1 with mCycle := s.mCycle + d }) ∧
      s.runEngine.mCycle = (if first.2 then s.mCycle + d else s.mCycle) ∧
      s.runEngine.sysCounter = s.sysCounter + BitVec.ofNat 16 (4 * s.runEngine.mCycle)

/-- R125, R316, R321, R340: the step that fetches an illegal opcode sets the fault and runs no T-cycle, and every later step
changes nothing (92 D35). -/
def Obligations.DecodeFatalStopsTheMachine : Prop :=
  ∀ s : State, s.fault = none → s.halt = false →
    s.bus.read s.pc ∈ ([0xD3, 0xDB, 0xDD, 0xE3, 0xE4, 0xEB, 0xEC, 0xED, 0xF4, 0xFC, 0xFD] : List Byte) →
    let t := { s with pc := s.pc + 1, mCycle := 1, fault := some (.illegalOpcode (s.bus.read s.pc) s.pc) }
    step s = .next t ∧ step t = .next t

/-- R145, R343: no run-time error exists beside DecodeFatal; and DecodeFatal is a recorded state (R320, R321, R340, the spec's decision
92 D35), which log 9 (DEDUCED) reads as a next state of the step that raises it and of every later one. So every step answers a
next state. -/
def Obligations.StepAlwaysNext : Prop := ∀ s : State, ∃ t, step s = .next t

/-! ## Reset and invariants -/

/-- R53, R370: the reset state for every cartridge and every value of the open parameters. Apart from PC and SP the values are
the spec's decisions (92 D1 to D7, D35); `State.reset`'s own cartridge and parameters are the model's choice (log 1 to 4). -/
def Obligations.ResetValues : Prop :=
  ∀ (c : Cartridge) (p : ResetParams),
    let s := State.ofParams c p
    s.pc = 0x0100 ∧ s.sp = 0xFFFE ∧ s.ime = false ∧ s.halt = false ∧ s.mCycle = 0 ∧ s.sysCounter = p.sysCounterInit ∧
      s.exeCounter = 0 ∧ (∀ k, Memory.read s.serialBuffer k = 0x00) ∧ s.serialPos = 0 ∧ s.fault = none ∧
      s.regs = { p.regInit with f := p.regInit.f &&& 0xF0 } ∧ s.bus.mem = p.memInit ∧ s.bus.extRam = p.extRamInit ∧
      s.bus.romBankLo = 1 ∧ s.bus.romBankHi = 0 ∧ s.bus.ramEnabled = false ∧ s.bus.bankingMode = false ∧ s.bus.cart = c ∧
      State.reset = State.ofParams Cartridge.blank {}

/-- R8, R342, R370, R373: the machine is constructed exactly when the five checks hold, and what is constructed is sound (the checks'
codes are the spec's decisions 92 D11, D27). The model's choice, and no rule of the spec: the image and the contents as lists of
cells that `Memory.ofCells` reads, a later cell winning and cells outside the array dropped (log 12); in `Sound`, every array a
canonical list (log 11) and the header typed (log 10). What `Sound` says besides is the zero low nibble of F (R22), the header of the
image (R34) and the low bank register not 0 (R37). -/
def Obligations.PowerOnChecks : Prop :=
  ∀ (im : RomImage) (p : ResetParams),
    let rom := Memory.ofCells 0 im.length im.cells
    let ok := im.readable = true ∧ 0x8000 ≤ im.length ∧ (Memory.read rom 0x148).toNat ≤ 8 ∧
      32768 * 2 ^ (Memory.read rom 0x148).toNat = im.length ∧ (Memory.read rom 0x149).toNat ≤ 5 ∧
      Memory.read rom 0x147 ∈ ([0x00, 0x01, 0x02, 0x03, 0x08, 0x09] : List Byte) ∧ im.allocatable = true
    (ok → ∃ s, powerOn im p = .ok s) ∧ ∀ s, powerOn im p = .ok s → ok ∧ s.Sound

/-- The reset state is sound. The zero low nibble of F (R22) and the low bank register of 1 (R37, R53) are the spec's. The cartridge,
contents and parameters of `State.reset` are the model's choice (log 1 to 4), and so are, in `Sound`, the header as typed (log 10)
and the arrays as canonical lists (log 11). -/
def Obligations.ResetSound : Prop := State.reset.Sound

/-- Every step from a sound state answers a sound one: F's low nibble is 0 (R22), the low bank register is not 0 (R37), the header
agrees with the image, which no step writes (R34, R85), and every array is inside its bounds (R32, R34, R35, R36) and a canonical
list. The last clause, that the arrays are canonical lists, is the model's choice and no rule of the spec (log 11); so is the typed
header (log 10). -/
def Obligations.StepKeepsSound : Prop := ∀ s t : State, s.Sound → step s = .next t → t.Sound

/-- R34, R85: no step writes the cartridge, or changes a parameter of the machine (R8), which the model keeps as fields of the state
(log 10). -/
def Obligations.StepKeepsCartridge : Prop :=
  ∀ s t : State, step s = .next t →
    t.bus.cart = s.bus.cart ∧ t.bus.disabledRead = s.bus.disabledRead ∧ t.dispatchCost = s.dispatchCost
end

