-- ==== Sys2Proof/Laws/Memory.lean ====
section
/-! SUPPORT. The laws of byte arrays: a read after a write, and that a write keeps the canonical form and the bounds. -/

namespace Sys2Proof.Machine

theorem Memory.wfFrom_mono {lo lo' : Nat} {m : Memory} (hl : lo' ≤ lo) (h : Memory.wfFrom lo m = true) :
    Memory.wfFrom lo' m = true := by
  cases m with
  | nil => rfl
  | cons c rest =>
    obtain ⟨k, w⟩ := c
    simp only [Memory.wfFrom, Bool.and_eq_true, decide_eq_true_eq] at h ⊢
    exact ⟨⟨by omega, h.1.2⟩, h.2⟩

/-- Below the first listed index an array reads as unlisted. -/
theorem Memory.read_below {lo i : Nat} {m : Memory} (h : Memory.wfFrom lo m = true) (hi : i < lo) :
    Memory.read m i = Config.unlisted := by
  induction m generalizing lo with
  | nil => rfl
  | cons c rest ih =>
    obtain ⟨k, w⟩ := c
    simp only [Memory.wfFrom, Bool.and_eq_true, decide_eq_true_eq] at h
    have hk : k ≠ i := by omega
    simp only [Memory.read, if_neg hk]
    exact ih h.2 (by omega)

/-- Another index reads as before. -/
theorem Memory.read_write_other (m : Memory) {i j : Nat} (v : Byte) (h : j ≠ i) :
    Memory.read (Memory.write m i v) j = Memory.read m j := by
  induction m with
  | nil =>
    simp only [Memory.write]
    split
    · rfl
    · simp [Memory.read, Ne.symm h]
  | cons c rest ih =>
    obtain ⟨k, w⟩ := c
    simp only [Memory.write]
    split
    · split
      · rfl
      · simp [Memory.read, Ne.symm h]
    · split
      · rename_i hik
        subst hik
        split <;> simp [Memory.read, Ne.symm h]
      · simp only [Memory.read, ih]

/-- The written index reads as the value written. -/
theorem Memory.read_write_same_from {lo : Nat} {m : Memory} (i : Nat) (v : Byte) (hm : Memory.wfFrom lo m = true) :
    Memory.read (Memory.write m i v) i = v := by
  induction m generalizing lo with
  | nil =>
    simp only [Memory.write]
    split
    · next h => simp [Memory.read, h]
    · simp [Memory.read]
  | cons c rest ih =>
    obtain ⟨k, w⟩ := c
    have hm' := hm
    simp only [Memory.wfFrom, Bool.and_eq_true, decide_eq_true_eq] at hm
    simp only [Memory.write]
    split
    · next hik =>
      split
      · next hv =>
        rw [hv]
        exact Memory.read_below (lo := k) (m := (k, w) :: rest) (by simp [Memory.wfFrom, hm.1.2, hm.2]) hik
      · simp [Memory.read]
    · split
      · next hik =>
        subst hik
        split
        · next hv => rw [hv]; exact Memory.read_below hm.2 (by omega)
        · simp [Memory.read]
      · next h1 h2 =>
        simp only [Memory.read, if_neg (Ne.symm h2)]
        exact ih hm.2

theorem Memory.read_write_same {m : Memory} (i : Nat) (v : Byte) (hm : Memory.wf m = true) :
    Memory.read (Memory.write m i v) i = v := Memory.read_write_same_from i v hm

/-- A read after a write, at any index. -/
theorem Memory.read_write {m : Memory} (i j : Nat) (v : Byte) (hm : Memory.wf m = true) :
    Memory.read (Memory.write m i v) j = if j = i then v else Memory.read m j := by
  split
  · next h => subst h; exact Memory.read_write_same _ v hm
  · next h => exact Memory.read_write_other m v h

theorem Memory.write_wfFrom {lo : Nat} {m : Memory} (i : Nat) (v : Byte) (hm : Memory.wfFrom lo m = true) :
    Memory.wfFrom (min lo i) (Memory.write m i v) = true := by
  induction m generalizing lo with
  | nil =>
    simp only [Memory.write]
    split
    · rfl
    · next h => simp [Memory.wfFrom, h]
  | cons c rest ih =>
    obtain ⟨k, w⟩ := c
    have hm' := hm
    simp only [Memory.wfFrom, Bool.and_eq_true, decide_eq_true_eq] at hm
    simp only [Memory.write]
    split
    · next hik =>
      split
      · exact Memory.wfFrom_mono (Nat.min_le_left _ _) hm'
      · next hv => simp [Memory.wfFrom, hv, hm.1.2, hm.2]; omega
    · split
      · next hik =>
        subst hik
        split
        · exact Memory.wfFrom_mono (by omega) hm.2
        · next hv => simp [Memory.wfFrom, hv, hm.2]
      · next h1 h2 =>
        have hr := ih hm.2
        have : min (k + 1) i = k + 1 := by omega
        rw [this] at hr
        simp only [Memory.wfFrom, Bool.and_eq_true, decide_eq_true_eq, hr, and_true]
        exact ⟨by omega, hm.1.2⟩

/-- A write keeps the canonical form. -/
theorem Memory.write_wf {m : Memory} (i : Nat) (v : Byte) (hm : Memory.wf m = true) : Memory.wf (Memory.write m i v) = true :=
  Memory.wfFrom_mono (Nat.zero_le _) (Memory.write_wfFrom i v hm)

/-- A write inside the bounds keeps the array inside them. -/
theorem Memory.write_within {lo hi : Nat} {m : Memory} (i : Nat) (v : Byte) (h1 : lo ≤ i) (h2 : i < hi)
    (hm : Memory.within lo hi m = true) : Memory.within lo hi (Memory.write m i v) = true := by
  induction m with
  | nil =>
    simp only [Memory.write]
    split <;> simp [Memory.within, h1, h2]
  | cons c rest ih =>
    obtain ⟨k, w⟩ := c
    simp only [Memory.within, List.all_cons, Bool.and_eq_true, decide_eq_true_eq] at hm ih
    simp only [Memory.write]
    split
    · split <;> simp [Memory.within, h1, h2, hm.1, hm.2]
    · split
      · split <;> simp [Memory.within, h1, h2, hm.2]
      · simp only [Memory.within, List.all_cons, Bool.and_eq_true, decide_eq_true_eq]
        exact ⟨hm.1, ih hm.2⟩

/-- Outside its bounds an array reads as unlisted. -/
theorem Memory.read_outside {lo hi i : Nat} {m : Memory} (hm : Memory.within lo hi m = true) (h : i < lo ∨ hi ≤ i) :
    Memory.read m i = Config.unlisted := by
  induction m with
  | nil => rfl
  | cons c rest ih =>
    obtain ⟨k, w⟩ := c
    simp only [Memory.within, List.all_cons, Bool.and_eq_true, decide_eq_true_eq] at hm ih
    have hk : k ≠ i := by omega
    simp only [Memory.read, if_neg hk]
    exact ih hm.2

/-- Two canonical arrays that read alike everywhere are equal. -/
theorem Memory.wfFrom_ext {lo : Nat} {m m' : Memory} (hm : Memory.wfFrom lo m = true) (hm' : Memory.wfFrom lo m' = true)
    (h : ∀ i, Memory.read m i = Memory.read m' i) : m = m' := by
  induction m generalizing m' lo with
  | nil =>
    cases m' with
    | nil => rfl
    | cons c rest =>
      obtain ⟨k, w⟩ := c
      simp only [Memory.wfFrom, Bool.and_eq_true, bne_iff_ne, ne_eq] at hm'
      have := h k
      simp only [Memory.read, if_true] at this
      exact absurd this.symm hm'.1.2
  | cons c rest ih =>
    obtain ⟨k, w⟩ := c
    simp only [Memory.wfFrom, Bool.and_eq_true, decide_eq_true_eq, bne_iff_ne, ne_eq] at hm
    cases m' with
    | nil =>
      have := h k
      simp only [Memory.read, if_true] at this
      exact absurd this hm.1.2
    | cons c' rest' =>
      obtain ⟨k', w'⟩ := c'
      simp only [Memory.wfFrom, Bool.and_eq_true, decide_eq_true_eq, bne_iff_ne, ne_eq] at hm'
      have hkk : k = k' := by
        rcases Nat.lt_trichotomy k k' with hlt | heq | hgt
        · have := h k
          simp only [Memory.read, if_true, if_neg (Nat.ne_of_gt hlt)] at this
          rw [Memory.read_below hm'.2 (by omega)] at this
          exact absurd this hm.1.2
        · exact heq
        · have := h k'
          simp only [Memory.read, if_true, if_neg (Nat.ne_of_gt hgt)] at this
          rw [Memory.read_below hm.2 (by omega)] at this
          exact absurd this.symm hm'.1.2
      subst hkk
      have hw : w = w' := by have := h k; simpa [Memory.read] using this
      subst hw
      congr 1
      refine ih hm.2 hm'.2 fun i => ?_
      by_cases hi : k = i
      · subst hi
        rw [Memory.read_below hm.2 (by omega), Memory.read_below hm'.2 (by omega)]
      · have := h i
        simpa [Memory.read, hi] using this

theorem Memory.wf_ext {m m' : Memory} (hm : Memory.wf m = true) (hm' : Memory.wf m' = true)
    (h : ∀ i, Memory.read m i = Memory.read m' i) : m = m' := Memory.wfFrom_ext hm hm' h

/-- The array of a list of cells is canonical and within its bounds. -/
theorem Memory.ofCells_wf (lo hi : Nat) (cells : List Host.Cell) :
    Memory.wf (Memory.ofCells lo hi cells) = true ∧ Memory.within lo hi (Memory.ofCells lo hi cells) = true := by
  have key : ∀ (cells : List Host.Cell) (m : Memory), Memory.wf m = true → Memory.within lo hi m = true →
      Memory.wf (cells.foldl (fun m cell => if lo ≤ cell.1 ∧ cell.1 < hi then Memory.write m cell.1 cell.2 else m) m) = true ∧
        Memory.within lo hi (cells.foldl (fun m cell => if lo ≤ cell.1 ∧ cell.1 < hi then Memory.write m cell.1 cell.2 else m) m) =
          true := by
    intro cells
    induction cells with
    | nil => intro m h1 h2; exact ⟨h1, h2⟩
    | cons c rest ih =>
      intro m h1 h2
      simp only [List.foldl_cons]
      split
      · next hc => exact ih _ (Memory.write_wf _ _ h1) (Memory.write_within _ _ hc.1 hc.2 h2)
      · exact ih _ h1 h2
  exact key cells [] rfl rfl

end Sys2Proof.Machine
end

