-- ==== Sys2Proof/Laws/State.lean ====
section
/-! SUPPORT. One lemma for each field and each update of the state, all true by unfolding, so that no later proof unfolds a record update. -/

namespace Sys2Proof.Machine

/-! ## `setReg` -/

@[simp] theorem State.setReg_regs (s : State) (r : Reg8) (v : Byte) : (s.setReg r v).regs = s.regs.set r v := rfl
@[simp] theorem State.setReg_sp (s : State) (r : Reg8) (v : Byte) : (s.setReg r v).sp = s.sp := rfl
@[simp] theorem State.setReg_pc (s : State) (r : Reg8) (v : Byte) : (s.setReg r v).pc = s.pc := rfl
@[simp] theorem State.setReg_ime (s : State) (r : Reg8) (v : Byte) : (s.setReg r v).ime = s.ime := rfl
@[simp] theorem State.setReg_halt (s : State) (r : Reg8) (v : Byte) : (s.setReg r v).halt = s.halt := rfl
@[simp] theorem State.setReg_mCycle (s : State) (r : Reg8) (v : Byte) : (s.setReg r v).mCycle = s.mCycle := rfl
@[simp] theorem State.setReg_sysCounter (s : State) (r : Reg8) (v : Byte) : (s.setReg r v).sysCounter = s.sysCounter := rfl
@[simp] theorem State.setReg_exeCounter (s : State) (r : Reg8) (v : Byte) : (s.setReg r v).exeCounter = s.exeCounter := rfl
@[simp] theorem State.setReg_serialBuffer (s : State) (r : Reg8) (v : Byte) : (s.setReg r v).serialBuffer = s.serialBuffer := rfl
@[simp] theorem State.setReg_serialPos (s : State) (r : Reg8) (v : Byte) : (s.setReg r v).serialPos = s.serialPos := rfl
@[simp] theorem State.setReg_fault (s : State) (r : Reg8) (v : Byte) : (s.setReg r v).fault = s.fault := rfl
@[simp] theorem State.setReg_bus (s : State) (r : Reg8) (v : Byte) : (s.setReg r v).bus = s.bus := rfl
@[simp] theorem State.setReg_dispatchCost (s : State) (r : Reg8) (v : Byte) : (s.setReg r v).dispatchCost = s.dispatchCost := rfl

/-! ## `setF` -/

@[simp] theorem State.setF_regs (s : State) (v : Byte) : (s.setF v).regs = s.regs.setF v := rfl
@[simp] theorem State.setF_sp (s : State) (v : Byte) : (s.setF v).sp = s.sp := rfl
@[simp] theorem State.setF_pc (s : State) (v : Byte) : (s.setF v).pc = s.pc := rfl
@[simp] theorem State.setF_ime (s : State) (v : Byte) : (s.setF v).ime = s.ime := rfl
@[simp] theorem State.setF_halt (s : State) (v : Byte) : (s.setF v).halt = s.halt := rfl
@[simp] theorem State.setF_mCycle (s : State) (v : Byte) : (s.setF v).mCycle = s.mCycle := rfl
@[simp] theorem State.setF_sysCounter (s : State) (v : Byte) : (s.setF v).sysCounter = s.sysCounter := rfl
@[simp] theorem State.setF_exeCounter (s : State) (v : Byte) : (s.setF v).exeCounter = s.exeCounter := rfl
@[simp] theorem State.setF_serialBuffer (s : State) (v : Byte) : (s.setF v).serialBuffer = s.serialBuffer := rfl
@[simp] theorem State.setF_serialPos (s : State) (v : Byte) : (s.setF v).serialPos = s.serialPos := rfl
@[simp] theorem State.setF_fault (s : State) (v : Byte) : (s.setF v).fault = s.fault := rfl
@[simp] theorem State.setF_bus (s : State) (v : Byte) : (s.setF v).bus = s.bus := rfl
@[simp] theorem State.setF_dispatchCost (s : State) (v : Byte) : (s.setF v).dispatchCost = s.dispatchCost := rfl

/-! ## `ticks` -/

@[simp] theorem State.ticks_regs (s : State) (n : Nat) : (s.ticks n).regs = s.regs := rfl
@[simp] theorem State.ticks_sp (s : State) (n : Nat) : (s.ticks n).sp = s.sp := rfl
@[simp] theorem State.ticks_pc (s : State) (n : Nat) : (s.ticks n).pc = s.pc := rfl
@[simp] theorem State.ticks_ime (s : State) (n : Nat) : (s.ticks n).ime = s.ime := rfl
@[simp] theorem State.ticks_halt (s : State) (n : Nat) : (s.ticks n).halt = s.halt := rfl
@[simp] theorem State.ticks_mCycle (s : State) (n : Nat) : (s.ticks n).mCycle = s.mCycle + n := rfl
@[simp] theorem State.ticks_sysCounter (s : State) (n : Nat) : (s.ticks n).sysCounter = s.sysCounter := rfl
@[simp] theorem State.ticks_exeCounter (s : State) (n : Nat) : (s.ticks n).exeCounter = s.exeCounter := rfl
@[simp] theorem State.ticks_serialBuffer (s : State) (n : Nat) : (s.ticks n).serialBuffer = s.serialBuffer := rfl
@[simp] theorem State.ticks_serialPos (s : State) (n : Nat) : (s.ticks n).serialPos = s.serialPos := rfl
@[simp] theorem State.ticks_fault (s : State) (n : Nat) : (s.ticks n).fault = s.fault := rfl
@[simp] theorem State.ticks_bus (s : State) (n : Nat) : (s.ticks n).bus = s.bus := rfl
@[simp] theorem State.ticks_dispatchCost (s : State) (n : Nat) : (s.ticks n).dispatchCost = s.dispatchCost := rfl

/-! ## `internal` -/

@[simp] theorem State.internal_regs (s : State) : (s.internal).regs = s.regs := rfl
@[simp] theorem State.internal_sp (s : State) : (s.internal).sp = s.sp := rfl
@[simp] theorem State.internal_pc (s : State) : (s.internal).pc = s.pc := rfl
@[simp] theorem State.internal_ime (s : State) : (s.internal).ime = s.ime := rfl
@[simp] theorem State.internal_halt (s : State) : (s.internal).halt = s.halt := rfl
@[simp] theorem State.internal_mCycle (s : State) : (s.internal).mCycle = s.mCycle + 1 := rfl
@[simp] theorem State.internal_sysCounter (s : State) : (s.internal).sysCounter = s.sysCounter := rfl
@[simp] theorem State.internal_exeCounter (s : State) : (s.internal).exeCounter = s.exeCounter := rfl
@[simp] theorem State.internal_serialBuffer (s : State) : (s.internal).serialBuffer = s.serialBuffer := rfl
@[simp] theorem State.internal_serialPos (s : State) : (s.internal).serialPos = s.serialPos := rfl
@[simp] theorem State.internal_fault (s : State) : (s.internal).fault = s.fault := rfl
@[simp] theorem State.internal_bus (s : State) : (s.internal).bus = s.bus := rfl
@[simp] theorem State.internal_dispatchCost (s : State) : (s.internal).dispatchCost = s.dispatchCost := rfl

/-! ## `memWrite` -/

@[simp] theorem State.memWrite_regs (s : State) (a : Word) (v : Byte) : (s.memWrite a v).regs = s.regs := rfl
@[simp] theorem State.memWrite_sp (s : State) (a : Word) (v : Byte) : (s.memWrite a v).sp = s.sp := rfl
@[simp] theorem State.memWrite_pc (s : State) (a : Word) (v : Byte) : (s.memWrite a v).pc = s.pc := rfl
@[simp] theorem State.memWrite_ime (s : State) (a : Word) (v : Byte) : (s.memWrite a v).ime = s.ime := rfl
@[simp] theorem State.memWrite_halt (s : State) (a : Word) (v : Byte) : (s.memWrite a v).halt = s.halt := rfl
@[simp] theorem State.memWrite_mCycle (s : State) (a : Word) (v : Byte) : (s.memWrite a v).mCycle = s.mCycle + 1 := rfl
@[simp] theorem State.memWrite_sysCounter (s : State) (a : Word) (v : Byte) : (s.memWrite a v).sysCounter = s.sysCounter := rfl
@[simp] theorem State.memWrite_exeCounter (s : State) (a : Word) (v : Byte) : (s.memWrite a v).exeCounter = s.exeCounter := rfl
@[simp] theorem State.memWrite_serialBuffer (s : State) (a : Word) (v : Byte) : (s.memWrite a v).serialBuffer = s.serialBuffer := rfl
@[simp] theorem State.memWrite_serialPos (s : State) (a : Word) (v : Byte) : (s.memWrite a v).serialPos = s.serialPos := rfl
@[simp] theorem State.memWrite_fault (s : State) (a : Word) (v : Byte) : (s.memWrite a v).fault = s.fault := rfl
@[simp] theorem State.memWrite_bus (s : State) (a : Word) (v : Byte) : (s.memWrite a v).bus = s.bus.write a v := rfl
@[simp] theorem State.memWrite_dispatchCost (s : State) (a : Word) (v : Byte) : (s.memWrite a v).dispatchCost = s.dispatchCost := rfl

/-! ## `memWrite16` -/

@[simp] theorem State.memWrite16_regs (s : State) (a v : Word) : (s.memWrite16 a v).regs = s.regs := rfl
@[simp] theorem State.memWrite16_sp (s : State) (a v : Word) : (s.memWrite16 a v).sp = s.sp := rfl
@[simp] theorem State.memWrite16_pc (s : State) (a v : Word) : (s.memWrite16 a v).pc = s.pc := rfl
@[simp] theorem State.memWrite16_ime (s : State) (a v : Word) : (s.memWrite16 a v).ime = s.ime := rfl
@[simp] theorem State.memWrite16_halt (s : State) (a v : Word) : (s.memWrite16 a v).halt = s.halt := rfl
@[simp] theorem State.memWrite16_mCycle (s : State) (a v : Word) : (s.memWrite16 a v).mCycle = s.mCycle + 2 := rfl
@[simp] theorem State.memWrite16_sysCounter (s : State) (a v : Word) : (s.memWrite16 a v).sysCounter = s.sysCounter := rfl
@[simp] theorem State.memWrite16_exeCounter (s : State) (a v : Word) : (s.memWrite16 a v).exeCounter = s.exeCounter := rfl
@[simp] theorem State.memWrite16_serialBuffer (s : State) (a v : Word) : (s.memWrite16 a v).serialBuffer = s.serialBuffer := rfl
@[simp] theorem State.memWrite16_serialPos (s : State) (a v : Word) : (s.memWrite16 a v).serialPos = s.serialPos := rfl
@[simp] theorem State.memWrite16_fault (s : State) (a v : Word) : (s.memWrite16 a v).fault = s.fault := rfl
@[simp] theorem State.memWrite16_bus (s : State) (a v : Word) : (s.memWrite16 a v).bus = (s.bus.write a (loByte v)).write (a + 1) (hiByte v) := rfl
@[simp] theorem State.memWrite16_dispatchCost (s : State) (a v : Word) : (s.memWrite16 a v).dispatchCost = s.dispatchCost := rfl

/-! ## `advance` -/

@[simp] theorem State.advance_regs (s : State) (n : Nat) : (s.advance n).regs = s.regs := rfl
@[simp] theorem State.advance_sp (s : State) (n : Nat) : (s.advance n).sp = s.sp := rfl
@[simp] theorem State.advance_pc (s : State) (n : Nat) : (s.advance n).pc = s.pc + BitVec.ofNat 16 n := rfl
@[simp] theorem State.advance_ime (s : State) (n : Nat) : (s.advance n).ime = s.ime := rfl
@[simp] theorem State.advance_halt (s : State) (n : Nat) : (s.advance n).halt = s.halt := rfl
@[simp] theorem State.advance_mCycle (s : State) (n : Nat) : (s.advance n).mCycle = s.mCycle + n := rfl
@[simp] theorem State.advance_sysCounter (s : State) (n : Nat) : (s.advance n).sysCounter = s.sysCounter := rfl
@[simp] theorem State.advance_exeCounter (s : State) (n : Nat) : (s.advance n).exeCounter = s.exeCounter := rfl
@[simp] theorem State.advance_serialBuffer (s : State) (n : Nat) : (s.advance n).serialBuffer = s.serialBuffer := rfl
@[simp] theorem State.advance_serialPos (s : State) (n : Nat) : (s.advance n).serialPos = s.serialPos := rfl
@[simp] theorem State.advance_fault (s : State) (n : Nat) : (s.advance n).fault = s.fault := rfl
@[simp] theorem State.advance_bus (s : State) (n : Nat) : (s.advance n).bus = s.bus := rfl
@[simp] theorem State.advance_dispatchCost (s : State) (n : Nat) : (s.advance n).dispatchCost = s.dispatchCost := rfl

/-! ## `push16` -/

@[simp] theorem State.push16_regs (s : State) (v : Word) : (s.push16 v).regs = s.regs := rfl
@[simp] theorem State.push16_sp (s : State) (v : Word) : (s.push16 v).sp = s.sp - 2 := rfl
@[simp] theorem State.push16_pc (s : State) (v : Word) : (s.push16 v).pc = s.pc := rfl
@[simp] theorem State.push16_ime (s : State) (v : Word) : (s.push16 v).ime = s.ime := rfl
@[simp] theorem State.push16_halt (s : State) (v : Word) : (s.push16 v).halt = s.halt := rfl
@[simp] theorem State.push16_mCycle (s : State) (v : Word) : (s.push16 v).mCycle = s.mCycle + 2 := rfl
@[simp] theorem State.push16_sysCounter (s : State) (v : Word) : (s.push16 v).sysCounter = s.sysCounter := rfl
@[simp] theorem State.push16_exeCounter (s : State) (v : Word) : (s.push16 v).exeCounter = s.exeCounter := rfl
@[simp] theorem State.push16_serialBuffer (s : State) (v : Word) : (s.push16 v).serialBuffer = s.serialBuffer := rfl
@[simp] theorem State.push16_serialPos (s : State) (v : Word) : (s.push16 v).serialPos = s.serialPos := rfl
@[simp] theorem State.push16_fault (s : State) (v : Word) : (s.push16 v).fault = s.fault := rfl
@[simp] theorem State.push16_bus (s : State) (v : Word) : (s.push16 v).bus = (s.bus.write (s.sp - 1) (hiByte v)).write (s.sp - 2) (loByte v) := rfl
@[simp] theorem State.push16_dispatchCost (s : State) (v : Word) : (s.push16 v).dispatchCost = s.dispatchCost := rfl

/-! ## `pop16` -/

@[simp] theorem State.pop16_regs (s : State) : (s.pop16.2).regs = s.regs := rfl
@[simp] theorem State.pop16_sp (s : State) : (s.pop16.2).sp = s.sp + 2 := rfl
@[simp] theorem State.pop16_pc (s : State) : (s.pop16.2).pc = s.pc := rfl
@[simp] theorem State.pop16_ime (s : State) : (s.pop16.2).ime = s.ime := rfl
@[simp] theorem State.pop16_halt (s : State) : (s.pop16.2).halt = s.halt := rfl
@[simp] theorem State.pop16_mCycle (s : State) : (s.pop16.2).mCycle = s.mCycle + 2 := rfl
@[simp] theorem State.pop16_sysCounter (s : State) : (s.pop16.2).sysCounter = s.sysCounter := rfl
@[simp] theorem State.pop16_exeCounter (s : State) : (s.pop16.2).exeCounter = s.exeCounter := rfl
@[simp] theorem State.pop16_serialBuffer (s : State) : (s.pop16.2).serialBuffer = s.serialBuffer := rfl
@[simp] theorem State.pop16_serialPos (s : State) : (s.pop16.2).serialPos = s.serialPos := rfl
@[simp] theorem State.pop16_fault (s : State) : (s.pop16.2).fault = s.fault := rfl
@[simp] theorem State.pop16_bus (s : State) : (s.pop16.2).bus = s.bus := rfl
@[simp] theorem State.pop16_dispatchCost (s : State) : (s.pop16.2).dispatchCost = s.dispatchCost := rfl

/-! ## `returnBody` -/

@[simp] theorem State.returnBody_regs (s : State) : (s.returnBody).regs = s.regs := rfl
@[simp] theorem State.returnBody_sp (s : State) : (s.returnBody).sp = s.sp + 2 := rfl
@[simp] theorem State.returnBody_pc (s : State) : (s.returnBody).pc = s.bus.read (s.sp + 1) ++ s.bus.read s.sp := rfl
@[simp] theorem State.returnBody_ime (s : State) : (s.returnBody).ime = s.ime := rfl
@[simp] theorem State.returnBody_halt (s : State) : (s.returnBody).halt = s.halt := rfl
@[simp] theorem State.returnBody_mCycle (s : State) : (s.returnBody).mCycle = s.mCycle + 3 := rfl
@[simp] theorem State.returnBody_sysCounter (s : State) : (s.returnBody).sysCounter = s.sysCounter := rfl
@[simp] theorem State.returnBody_exeCounter (s : State) : (s.returnBody).exeCounter = s.exeCounter := rfl
@[simp] theorem State.returnBody_serialBuffer (s : State) : (s.returnBody).serialBuffer = s.serialBuffer := rfl
@[simp] theorem State.returnBody_serialPos (s : State) : (s.returnBody).serialPos = s.serialPos := rfl
@[simp] theorem State.returnBody_fault (s : State) : (s.returnBody).fault = s.fault := rfl
@[simp] theorem State.returnBody_bus (s : State) : (s.returnBody).bus = s.bus := rfl
@[simp] theorem State.returnBody_dispatchCost (s : State) : (s.returnBody).dispatchCost = s.dispatchCost := rfl

/-! ## `returnFromInterrupt` -/

@[simp] theorem State.returnFromInterrupt_regs (s : State) : (s.returnFromInterrupt).regs = s.regs := rfl
@[simp] theorem State.returnFromInterrupt_sp (s : State) : (s.returnFromInterrupt).sp = s.sp + 2 := rfl
@[simp] theorem State.returnFromInterrupt_pc (s : State) : (s.returnFromInterrupt).pc = s.bus.read (s.sp + 1) ++ s.bus.read s.sp := rfl
@[simp] theorem State.returnFromInterrupt_ime (s : State) : (s.returnFromInterrupt).ime = true := rfl
@[simp] theorem State.returnFromInterrupt_halt (s : State) : (s.returnFromInterrupt).halt = s.halt := rfl
@[simp] theorem State.returnFromInterrupt_mCycle (s : State) : (s.returnFromInterrupt).mCycle = s.mCycle + 3 := rfl
@[simp] theorem State.returnFromInterrupt_sysCounter (s : State) : (s.returnFromInterrupt).sysCounter = s.sysCounter := rfl
@[simp] theorem State.returnFromInterrupt_exeCounter (s : State) : (s.returnFromInterrupt).exeCounter = s.exeCounter := rfl
@[simp] theorem State.returnFromInterrupt_serialBuffer (s : State) : (s.returnFromInterrupt).serialBuffer = s.serialBuffer := rfl
@[simp] theorem State.returnFromInterrupt_serialPos (s : State) : (s.returnFromInterrupt).serialPos = s.serialPos := rfl
@[simp] theorem State.returnFromInterrupt_fault (s : State) : (s.returnFromInterrupt).fault = s.fault := rfl
@[simp] theorem State.returnFromInterrupt_bus (s : State) : (s.returnFromInterrupt).bus = s.bus := rfl
@[simp] theorem State.returnFromInterrupt_dispatchCost (s : State) : (s.returnFromInterrupt).dispatchCost = s.dispatchCost := rfl

/-! ## `raise` -/

@[simp] theorem State.raise_regs (s : State) (d : DecodeFatal) : (s.raise d).regs = s.regs := rfl
@[simp] theorem State.raise_sp (s : State) (d : DecodeFatal) : (s.raise d).sp = s.sp := rfl
@[simp] theorem State.raise_pc (s : State) (d : DecodeFatal) : (s.raise d).pc = s.pc := rfl
@[simp] theorem State.raise_ime (s : State) (d : DecodeFatal) : (s.raise d).ime = s.ime := rfl
@[simp] theorem State.raise_halt (s : State) (d : DecodeFatal) : (s.raise d).halt = s.halt := rfl
@[simp] theorem State.raise_mCycle (s : State) (d : DecodeFatal) : (s.raise d).mCycle = s.mCycle := rfl
@[simp] theorem State.raise_sysCounter (s : State) (d : DecodeFatal) : (s.raise d).sysCounter = s.sysCounter := rfl
@[simp] theorem State.raise_exeCounter (s : State) (d : DecodeFatal) : (s.raise d).exeCounter = s.exeCounter := rfl
@[simp] theorem State.raise_serialBuffer (s : State) (d : DecodeFatal) : (s.raise d).serialBuffer = s.serialBuffer := rfl
@[simp] theorem State.raise_serialPos (s : State) (d : DecodeFatal) : (s.raise d).serialPos = s.serialPos := rfl
@[simp] theorem State.raise_fault (s : State) (d : DecodeFatal) : (s.raise d).fault = some d := rfl
@[simp] theorem State.raise_bus (s : State) (d : DecodeFatal) : (s.raise d).bus = s.bus := rfl
@[simp] theorem State.raise_dispatchCost (s : State) (d : DecodeFatal) : (s.raise d).dispatchCost = s.dispatchCost := rfl

/-! ## `setFlags` -/

@[simp] theorem State.setFlags_regs (s : State) (z n h c : Option Bool) : (s.setFlags z n h c).regs = s.regs.setFlags z n h c := rfl
@[simp] theorem State.setFlags_sp (s : State) (z n h c : Option Bool) : (s.setFlags z n h c).sp = s.sp := rfl
@[simp] theorem State.setFlags_pc (s : State) (z n h c : Option Bool) : (s.setFlags z n h c).pc = s.pc := rfl
@[simp] theorem State.setFlags_ime (s : State) (z n h c : Option Bool) : (s.setFlags z n h c).ime = s.ime := rfl
@[simp] theorem State.setFlags_halt (s : State) (z n h c : Option Bool) : (s.setFlags z n h c).halt = s.halt := rfl
@[simp] theorem State.setFlags_mCycle (s : State) (z n h c : Option Bool) : (s.setFlags z n h c).mCycle = s.mCycle := rfl
@[simp] theorem State.setFlags_sysCounter (s : State) (z n h c : Option Bool) : (s.setFlags z n h c).sysCounter = s.sysCounter := rfl
@[simp] theorem State.setFlags_exeCounter (s : State) (z n h c : Option Bool) : (s.setFlags z n h c).exeCounter = s.exeCounter := rfl
@[simp] theorem State.setFlags_serialBuffer (s : State) (z n h c : Option Bool) : (s.setFlags z n h c).serialBuffer = s.serialBuffer := rfl
@[simp] theorem State.setFlags_serialPos (s : State) (z n h c : Option Bool) : (s.setFlags z n h c).serialPos = s.serialPos := rfl
@[simp] theorem State.setFlags_fault (s : State) (z n h c : Option Bool) : (s.setFlags z n h c).fault = s.fault := rfl
@[simp] theorem State.setFlags_bus (s : State) (z n h c : Option Bool) : (s.setFlags z n h c).bus = s.bus := rfl
@[simp] theorem State.setFlags_dispatchCost (s : State) (z n h c : Option Bool) : (s.setFlags z n h c).dispatchCost = s.dispatchCost := rfl

/-! ## `beginStep` -/

@[simp] theorem State.beginStep_regs (s : State) : (s.beginStep).regs = s.regs := rfl
@[simp] theorem State.beginStep_sp (s : State) : (s.beginStep).sp = s.sp := rfl
@[simp] theorem State.beginStep_pc (s : State) : (s.beginStep).pc = s.pc := rfl
@[simp] theorem State.beginStep_ime (s : State) : (s.beginStep).ime = s.ime := rfl
@[simp] theorem State.beginStep_halt (s : State) : (s.beginStep).halt = s.halt := rfl
@[simp] theorem State.beginStep_mCycle (s : State) : (s.beginStep).mCycle = 0 := rfl
@[simp] theorem State.beginStep_sysCounter (s : State) : (s.beginStep).sysCounter = s.sysCounter := rfl
@[simp] theorem State.beginStep_exeCounter (s : State) : (s.beginStep).exeCounter = s.exeCounter := rfl
@[simp] theorem State.beginStep_serialBuffer (s : State) : (s.beginStep).serialBuffer = s.serialBuffer := rfl
@[simp] theorem State.beginStep_serialPos (s : State) : (s.beginStep).serialPos = s.serialPos := rfl
@[simp] theorem State.beginStep_fault (s : State) : (s.beginStep).fault = s.fault := rfl
@[simp] theorem State.beginStep_bus (s : State) : (s.beginStep).bus = s.bus := rfl
@[simp] theorem State.beginStep_dispatchCost (s : State) : (s.beginStep).dispatchCost = s.dispatchCost := rfl

/-! ## `set16` -/

@[simp] theorem State.set16_pc (s : State) (r : Reg16) (v : Word) : (s.set16 r v).pc = s.pc := by cases r <;> rfl
@[simp] theorem State.set16_ime (s : State) (r : Reg16) (v : Word) : (s.set16 r v).ime = s.ime := by cases r <;> rfl
@[simp] theorem State.set16_halt (s : State) (r : Reg16) (v : Word) : (s.set16 r v).halt = s.halt := by cases r <;> rfl
@[simp] theorem State.set16_mCycle (s : State) (r : Reg16) (v : Word) : (s.set16 r v).mCycle = s.mCycle := by cases r <;> rfl
@[simp] theorem State.set16_sysCounter (s : State) (r : Reg16) (v : Word) : (s.set16 r v).sysCounter = s.sysCounter := by cases r <;> rfl
@[simp] theorem State.set16_exeCounter (s : State) (r : Reg16) (v : Word) : (s.set16 r v).exeCounter = s.exeCounter := by cases r <;> rfl
@[simp] theorem State.set16_serialBuffer (s : State) (r : Reg16) (v : Word) : (s.set16 r v).serialBuffer = s.serialBuffer := by cases r <;> rfl
@[simp] theorem State.set16_serialPos (s : State) (r : Reg16) (v : Word) : (s.set16 r v).serialPos = s.serialPos := by cases r <;> rfl
@[simp] theorem State.set16_fault (s : State) (r : Reg16) (v : Word) : (s.set16 r v).fault = s.fault := by cases r <;> rfl
@[simp] theorem State.set16_bus (s : State) (r : Reg16) (v : Word) : (s.set16 r v).bus = s.bus := by cases r <;> rfl
@[simp] theorem State.set16_dispatchCost (s : State) (r : Reg16) (v : Word) : (s.set16 r v).dispatchCost = s.dispatchCost := by cases r <;> rfl

/-! ## `setIo` and `extRamWrite` -/

@[simp] theorem Bus.setIo_cart (b : Bus) (i : Nat) (v : Byte) : (b.setIo i v).cart = b.cart := rfl
@[simp] theorem Bus.setIo_mem (b : Bus) (i : Nat) (v : Byte) : (b.setIo i v).mem = Memory.write b.mem i v := rfl
@[simp] theorem Bus.setIo_extRam (b : Bus) (i : Nat) (v : Byte) : (b.setIo i v).extRam = b.extRam := rfl
@[simp] theorem Bus.setIo_romBankLo (b : Bus) (i : Nat) (v : Byte) : (b.setIo i v).romBankLo = b.romBankLo := rfl
@[simp] theorem Bus.setIo_romBankHi (b : Bus) (i : Nat) (v : Byte) : (b.setIo i v).romBankHi = b.romBankHi := rfl
@[simp] theorem Bus.setIo_ramEnabled (b : Bus) (i : Nat) (v : Byte) : (b.setIo i v).ramEnabled = b.ramEnabled := rfl
@[simp] theorem Bus.setIo_bankingMode (b : Bus) (i : Nat) (v : Byte) : (b.setIo i v).bankingMode = b.bankingMode := rfl
@[simp] theorem Bus.setIo_disabledRead (b : Bus) (i : Nat) (v : Byte) : (b.setIo i v).disabledRead = b.disabledRead := rfl
@[simp] theorem Bus.extRamWrite_cart (b : Bus) (i : Nat) (v : Byte) : (b.extRamWrite i v).cart = b.cart := by
  unfold Bus.extRamWrite; split <;> rfl
@[simp] theorem Bus.extRamWrite_mem (b : Bus) (i : Nat) (v : Byte) : (b.extRamWrite i v).mem = b.mem := by
  unfold Bus.extRamWrite; split <;> rfl
@[simp] theorem Bus.extRamWrite_romBankLo (b : Bus) (i : Nat) (v : Byte) : (b.extRamWrite i v).romBankLo = b.romBankLo := by
  unfold Bus.extRamWrite; split <;> rfl
@[simp] theorem Bus.extRamWrite_romBankHi (b : Bus) (i : Nat) (v : Byte) : (b.extRamWrite i v).romBankHi = b.romBankHi := by
  unfold Bus.extRamWrite; split <;> rfl
@[simp] theorem Bus.extRamWrite_ramEnabled (b : Bus) (i : Nat) (v : Byte) : (b.extRamWrite i v).ramEnabled = b.ramEnabled := by
  unfold Bus.extRamWrite; split <;> rfl
@[simp] theorem Bus.extRamWrite_bankingMode (b : Bus) (i : Nat) (v : Byte) : (b.extRamWrite i v).bankingMode = b.bankingMode := by
  unfold Bus.extRamWrite; split <;> rfl
@[simp] theorem Bus.extRamWrite_disabledRead (b : Bus) (i : Nat) (v : Byte) : (b.extRamWrite i v).disabledRead = b.disabledRead := by
  unfold Bus.extRamWrite; split <;> rfl

/-! ## The registers -/

@[simp] theorem Regs.set_f (x : Regs) (r : Reg8) (v : Byte) : (x.set r v).f = x.f := by cases r <;> rfl
@[simp] theorem Regs.setF_f (x : Regs) (v : Byte) : (x.setF v).f = v &&& 0xF0 := rfl
@[simp] theorem Regs.setF_a (x : Regs) (v : Byte) : (x.setF v).a = x.a := rfl
@[simp] theorem Regs.setF_b (x : Regs) (v : Byte) : (x.setF v).b = x.b := rfl
@[simp] theorem Regs.setF_c (x : Regs) (v : Byte) : (x.setF v).c = x.c := rfl
@[simp] theorem Regs.setF_d (x : Regs) (v : Byte) : (x.setF v).d = x.d := rfl
@[simp] theorem Regs.setF_e (x : Regs) (v : Byte) : (x.setF v).e = x.e := rfl
@[simp] theorem Regs.setF_h (x : Regs) (v : Byte) : (x.setF v).h = x.h := rfl
@[simp] theorem Regs.setF_l (x : Regs) (v : Byte) : (x.setF v).l = x.l := rfl
@[simp] theorem Regs.setFlags_a (x : Regs) (z n h c : Option Bool) : (x.setFlags z n h c).a = x.a := rfl
@[simp] theorem Regs.setFlags_b (x : Regs) (z n h c : Option Bool) : (x.setFlags z n h c).b = x.b := rfl
@[simp] theorem Regs.setFlags_c (x : Regs) (z n h c : Option Bool) : (x.setFlags z n h c).c = x.c := rfl
@[simp] theorem Regs.setFlags_d (x : Regs) (z n h c : Option Bool) : (x.setFlags z n h c).d = x.d := rfl
@[simp] theorem Regs.setFlags_e (x : Regs) (z n h c : Option Bool) : (x.setFlags z n h c).e = x.e := rfl
@[simp] theorem Regs.setFlags_h (x : Regs) (z n h c : Option Bool) : (x.setFlags z n h c).h = x.h := rfl
@[simp] theorem Regs.setFlags_l (x : Regs) (z n h c : Option Bool) : (x.setFlags z n h c).l = x.l := rfl

theorem Regs.get_set_same (x : Regs) (r : Reg8) (v : Byte) : (x.set r v).get r = v := by cases r <;> rfl

theorem Regs.get_set_other (x : Regs) {r r' : Reg8} (v : Byte) (h : r' ≠ r) : (x.set r v).get r' = x.get r' := by
  cases r <;> cases r' <;> first | rfl | exact absurd rfl h

end Sys2Proof.Machine
end

