-- ==== Sys2Proof/Laws/Bus.lean ====
section
/-! SUPPORT. The laws of the bus: what each write changes and leaves, what a read after it gives, and that every operation keeps a sound
bus sound. -/

namespace Sys2Proof.Machine

/-! ## Bit arithmetic of the bank offsets -/

theorem or_eq_add_of_dvd {k a b : Nat} (ha : a % 2 ^ k = 0) (hb : b < 2 ^ k) : a ||| b = a + b := by
  obtain ⟨c, rfl⟩ : 2 ^ k ∣ a := Nat.dvd_of_mod_eq_zero ha
  exact (Nat.two_pow_add_eq_or_of_lt hb c).symm

/-- R63: the RAM bank offset as a product. -/
theorem Bus.ramBankOffset_eq (b : Bus) :
    b.ramBankOffset = if b.cart.mapper = .mbc1 ∧ b.bankingMode = true then b.romBankHi.toNat * 0x2000 else 0 := by
  unfold Bus.ramBankOffset
  split
  · next h => cases hm : b.bankingMode <;> simp [h, Nat.shiftLeft_eq]
  · next h => simp [h]

theorem Bus.ramBankOffset_mod (b : Bus) : b.ramBankOffset % 0x2000 = 0 := by
  rw [Bus.ramBankOffset_eq]; split <;> simp

/-- R63: in the external RAM window the `|` of the index is a sum. -/
theorem Bus.extRamIndex_eq (b : Bus) {n : Nat} (h2 : n < 0xC000) :
    b.extRamIndex n = (b.ramBankOffset + (n - 0xA000)) % b.cart.ramSize := by
  unfold Bus.extRamIndex
  rw [or_eq_add_of_dvd (k := 13) b.ramBankOffset_mod (by omega)]

/-- R65: the ROM bank offset as a product. -/
theorem Bus.effectiveRomOffset_eq (b : Bus) :
    b.effectiveRomOffset = (b.romBankHi.toNat * 32 + b.romBankLo.toNat) * 0x4000 := by
  unfold Bus.effectiveRomOffset
  have h := b.romBankLo.isLt
  rw [or_eq_add_of_dvd (k := 19) (by simp [Nat.shiftLeft_eq]) (by simp [Nat.shiftLeft_eq]; omega)]
  simp [Nat.shiftLeft_eq]; omega

/-- R65: in the switchable window the `|` of the index is a sum. -/
theorem Bus.bankedRomIndex_mbc1 (b : Bus) {n : Nat} (hm : b.cart.mapper = .mbc1) (h2 : n < 0x8000) :
    b.bankedRomIndex n = (b.romBankHi.toNat * 32 + b.romBankLo.toNat) * 0x4000 + (n - 0x4000) := by
  unfold Bus.bankedRomIndex
  simp only [hm]
  rw [Bus.effectiveRomOffset_eq, or_eq_add_of_dvd (k := 14) (by simp) (by omega)]

theorem Cartridge.ramSize_cases (c : Cartridge) : c.ramSize = 0 ∨ (c.ramSize % 0x2000 = 0 ∧ 0x2000 ≤ c.ramSize) := by
  unfold Cartridge.ramSize ramSizeOf
  split <;> simp

/-- R63: external RAM is present when it is enabled and has a size. -/
theorem Bus.extRamPresent_iff (b : Bus) :
    b.extRamPresent = true ↔ (b.cart.mapper = .plain ∨ b.ramEnabled = true) ∧ b.cart.ramSize ≠ 0 := by
  unfold Bus.extRamPresent Bus.extRamEnabled
  cases h : b.cart.mapper <;> simp

theorem Bus.extRamIndex_lt (b : Bus) (n : Nat) (h : b.extRamPresent = true) : b.extRamIndex n < b.cart.ramSize :=
  Nat.mod_lt _ (by have := (b.extRamPresent_iff.1 h).2; omega)

/-- Two addresses of the window reach two places of external RAM. -/
theorem Bus.extRamIndex_inj (b : Bus) {n m : Nat} (h : b.cart.ramSize ≠ 0) (hn : 0xA000 ≤ n) (hn' : n < 0xC000) (hm : 0xA000 ≤ m)
    (hm' : m < 0xC000) (e : b.extRamIndex n = b.extRamIndex m) : n = m := by
  rw [Bus.extRamIndex_eq b hn', Bus.extRamIndex_eq b hm'] at e
  have hoff := b.ramBankOffset_mod
  rcases b.cart.ramSize_cases with h0 | ⟨hd, hle⟩
  · exact absurd h0 h
  · obtain ⟨k, hk⟩ := Nat.dvd_of_mod_eq_zero hd
    have e2 := congrArg (· % 0x2000) e
    simp only [hk, Nat.mod_mul_right_mod] at e2
    omega

/-! ## Which branch an address takes -/

theorem Bus.read_mem (b : Bus) (x : Word) (h : (0x8000 ≤ x.toNat ∧ x.toNat < 0xA000) ∨ 0xC000 ≤ x.toNat) :
    b.read x = b.io x.toNat := by
  unfold Bus.read
  simp only
  repeat' split
  all_goals first | rfl | omega

theorem Bus.read_extRam (b : Bus) (x : Word) (h1 : 0xA000 ≤ x.toNat) (h2 : x.toNat < 0xC000) : b.read x = b.extRamRead x.toNat := by
  unfold Bus.read
  simp only
  repeat' split
  all_goals first | rfl | omega

theorem Bus.read_fixed (b : Bus) (x : Word) (h : x.toNat < 0x4000) : b.read x = b.cart.romByte x.toNat := by
  unfold Bus.read; simp [h]

theorem Bus.read_banked (b : Bus) (x : Word) (h1 : 0x4000 ≤ x.toNat) (h2 : x.toNat < 0x8000) :
    b.read x = b.cart.romByte (b.bankedRomIndex x.toNat) := by
  unfold Bus.read
  simp only
  repeat' split
  all_goals first | rfl | omega

theorem Bus.write_control (b : Bus) (a : Word) (v : Byte) (h : a.toNat < 0x8000) : b.write a v = b.controlWrite a.toNat v := by
  unfold Bus.write; simp [h]

theorem Bus.write_extRam (b : Bus) (a : Word) (v : Byte) (h1 : 0xA000 ≤ a.toNat) (h2 : a.toNat < 0xC000) :
    b.write a v = b.extRamWrite a.toNat v := by
  unfold Bus.write
  simp only
  repeat' split
  all_goals first | rfl | omega

theorem Bus.write_dma (b : Bus) (v : Byte) : b.write 0xFF46 v = b.dma v := rfl

theorem toNat_ne_of_ne {a c : Word} (h : a ≠ c) : a.toNat ≠ c.toNat := fun e => h (BitVec.eq_of_toNat_eq e)

theorem Bus.write_plain (b : Bus) (a : Word) (v : Byte) (h : PlainAddress a) : b.write a v = b.setIo a.toNat v := by
  obtain ⟨h1, h2, h3⟩ := h
  have h3' : a.toNat ≠ 0xFF46 := toNat_ne_of_ne h3
  unfold Bus.write
  simp only
  repeat' split
  all_goals first | rfl | omega

/-! ## The array of the internal memory -/

theorem Bus.io_setIo_other (b : Bus) {i j : Nat} (v : Byte) (h : j ≠ i) : (b.setIo i v).io j = b.io j :=
  Memory.read_write_other b.mem v h

theorem Bus.io_setIo_same (b : Bus) (i : Nat) (v : Byte) (h : Memory.wf b.mem = true) : (b.setIo i v).io i = v :=
  Memory.read_write_same i v h

/-- A store into the internal array leaves every other address. -/
theorem Bus.read_setIo_other (b : Bus) {i : Nat} (v : Byte) (x : Word) (h : x.toNat ≠ i) : (b.setIo i v).read x = b.read x := by
  unfold Bus.read
  simp only [Bus.io_setIo_other b v h]
  rfl

theorem Bus.read_setIo_same (b : Bus) (v : Byte) (x : Word) (hw : Memory.wf b.mem = true)
    (h : (0x8000 ≤ x.toNat ∧ x.toNat < 0xA000) ∨ 0xC000 ≤ x.toNat) : (b.setIo x.toNat v).read x = v := by
  rw [Bus.read_mem _ _ h, Bus.io_setIo_same _ _ _ hw]

/-! ## What a write leaves -/

theorem Bus.oamCopy_fields (b : Bus) (page : Byte) (n : Nat) :
    (b.oamCopy page n).cart = b.cart ∧ (b.oamCopy page n).extRam = b.extRam ∧ (b.oamCopy page n).romBankLo = b.romBankLo ∧
      (b.oamCopy page n).romBankHi = b.romBankHi ∧ (b.oamCopy page n).ramEnabled = b.ramEnabled ∧
      (b.oamCopy page n).bankingMode = b.bankingMode ∧ (b.oamCopy page n).disabledRead = b.disabledRead := by
  induction n with
  | zero => exact ⟨rfl, rfl, rfl, rfl, rfl, rfl, rfl⟩
  | succ k ih => exact ih

theorem Bus.controlWrite_fields (b : Bus) (n : Nat) (v : Byte) :
    (b.controlWrite n v).cart = b.cart ∧ (b.controlWrite n v).mem = b.mem ∧ (b.controlWrite n v).extRam = b.extRam ∧
      (b.controlWrite n v).disabledRead = b.disabledRead := by
  unfold Bus.controlWrite Bus.mbc1Write
  repeat' split
  all_goals exact ⟨rfl, rfl, rfl, rfl⟩

@[simp] theorem Bus.write_cart (b : Bus) (a : Word) (v : Byte) : (b.write a v).cart = b.cart := by
  unfold Bus.write Bus.dma
  simp only
  repeat' split
  · exact (b.controlWrite_fields _ v).1
  · rfl
  · exact b.extRamWrite_cart _ v
  · rw [Bus.setIo_cart, (b.oamCopy_fields v 160).1]
  · rfl

@[simp] theorem Bus.write_disabledRead (b : Bus) (a : Word) (v : Byte) : (b.write a v).disabledRead = b.disabledRead := by
  unfold Bus.write Bus.dma
  simp only
  repeat' split
  · exact (b.controlWrite_fields _ v).2.2.2
  · rfl
  · exact b.extRamWrite_disabledRead _ v
  · rw [Bus.setIo_disabledRead, (b.oamCopy_fields v 160).2.2.2.2.2.2]
  · rfl

/-- The object memory copy leaves every address outside the bytes it has copied. -/
theorem Bus.read_oamCopy_other (b : Bus) (page : Byte) (n : Nat) (x : Word) (h : ¬(0xFE00 ≤ x.toNat ∧ x.toNat < 0xFE00 + n)) :
    (b.oamCopy page n).read x = b.read x := by
  induction n with
  | zero => rfl
  | succ k ih =>
    simp only [Bus.oamCopy]
    rw [Bus.read_setIo_other _ _ _ (by omega), ih (by omega)]

/-- External RAM reads alike on buses that differ in the internal array only. -/
theorem Bus.extRamWrite_read_other (b : Bus) {n : Nat} (v : Byte) (x : Word) (hn : 0xA000 ≤ n) (hn' : n < 0xC000) (h : x.toNat ≠ n) :
    (b.extRamWrite n v).read x = b.read x := by
  unfold Bus.extRamWrite
  split
  · next hp =>
    by_cases hx : 0xA000 ≤ x.toNat ∧ x.toNat < 0xC000
    · rw [Bus.read_extRam _ _ hx.1 hx.2, Bus.read_extRam _ _ hx.1 hx.2]
      unfold Bus.extRamRead
      have hp' : ({ b with extRam := Memory.write b.extRam (b.extRamIndex n) v } : Bus).extRamPresent = b.extRamPresent := rfl
      have hi : ({ b with extRam := Memory.write b.extRam (b.extRamIndex n) v } : Bus).extRamIndex x.toNat = b.extRamIndex x.toNat := rfl
      rw [hp', hi, hp]
      simp only [if_true]
      refine Memory.read_write_other _ _ fun e => h ?_
      exact Bus.extRamIndex_inj b (b.extRamPresent_iff.1 hp).2 hx.1 hx.2 hn hn' e
    · unfold Bus.read
      simp only
      repeat' split
      all_goals first | rfl | omega
  · rfl

/-- The frame of a bus write (R61, R69). -/
theorem Bus.read_write_frame (b : Bus) (a x : Word) (v : Byte) (h : ¬reaches a x) : (b.write a v).read x = b.read x := by
  unfold reaches at h
  by_cases h1 : a.toNat < 0x8000
  · rw [if_pos h1] at h
    rw [Bus.write_control _ _ _ h1]
    obtain ⟨hc, hm, he, hd⟩ := b.controlWrite_fields a.toNat v
    unfold Bus.read Bus.io
    simp only [hc, hm]
    repeat' split
    all_goals first | rfl | omega
  · rw [if_neg h1] at h
    by_cases h2 : a = 0xFF46
    · rw [if_pos h2] at h
      subst h2
      rw [Bus.write_dma]
      unfold Bus.dma
      have hx : x.toNat ≠ 0xFF46 := fun e => h (.inr (BitVec.eq_of_toNat_eq e))
      rw [Bus.read_setIo_other _ _ _ hx, Bus.read_oamCopy_other _ _ _ _ (fun e => h (.inl (by omega)))]
    · rw [if_neg h2] at h
      have hxa : x.toNat ≠ a.toNat := toNat_ne_of_ne h
      by_cases h3 : 0xA000 ≤ a.toNat ∧ a.toNat < 0xC000
      · rw [Bus.write_extRam _ _ _ h3.1 h3.2]
        exact Bus.extRamWrite_read_other b v x h3.1 h3.2 hxa
      · rw [Bus.write_plain _ _ _ ⟨by omega, h3, h2⟩]
        exact Bus.read_setIo_other _ _ _ hxa

/-! ## Read after write -/

/-- R62: a plain store is read back. -/
theorem Bus.read_write_plain (b : Bus) (a x : Word) (v : Byte) (hw : Memory.wf b.mem = true) (h : PlainAddress a) :
    (b.write a v).read x = if x = a then v else b.read x := by
  rw [Bus.write_plain _ _ _ h]
  obtain ⟨h1, h2, h3⟩ := h
  split
  · next e => subst e; exact Bus.read_setIo_same b v x hw (by omega)
  · next e => exact Bus.read_setIo_other _ _ _ (toNat_ne_of_ne e)

/-- R63, R73: a store to external RAM is read back. -/
theorem Bus.read_write_extRam (b : Bus) (a x : Word) (v : Byte) (hw : Memory.wf b.extRam = true) (h1 : 0xA000 ≤ a.toNat)
    (h2 : a.toNat < 0xC000) (hp : b.extRamPresent = true) : (b.write a v).read x = if x = a then v else b.read x := by
  rw [Bus.write_extRam _ _ _ h1 h2]
  split
  · next e =>
    subst e
    rw [Bus.read_extRam _ _ h1 h2]
    unfold Bus.extRamWrite Bus.extRamRead
    rw [if_pos hp]
    have hp' : ({ b with extRam := Memory.write b.extRam (b.extRamIndex x.toNat) v } : Bus).extRamPresent = true := hp
    rw [if_pos hp']
    exact Memory.read_write_same _ _ hw
  · next e => exact Bus.extRamWrite_read_other b v x h1 h2 (toNat_ne_of_ne e)

theorem Bus.oamCopy_wf (b : Bus) (page : Byte) (n : Nat) (hw : Memory.wf b.mem = true) : Memory.wf (b.oamCopy page n).mem = true := by
  induction n with
  | zero => exact hw
  | succ k ih => exact Memory.write_wf _ _ ih

/-- R75: a byte that the copy has written is the byte its source read as before the copy. -/
theorem Bus.oamCopy_read (b : Bus) (page : Byte) (n k : Nat) (hw : Memory.wf b.mem = true) (hn : n ≤ 160) (hk : k < n) :
    (b.oamCopy page n).io (0xFE00 + k) = b.read (BitVec.ofNat 16 (page.toNat * 256 + k)) := by
  induction n with
  | zero => omega
  | succ m ih =>
    have hwm := b.oamCopy_wf page m hw
    simp only [Bus.oamCopy]
    by_cases hkm : k = m
    · subst hkm
      rw [Bus.io_setIo_same _ _ _ hwm]
      refine Bus.read_oamCopy_other _ _ _ _ ?_
      have := page.isLt
      have hlt : (BitVec.ofNat 16 (page.toNat * 256 + k)).toNat = page.toNat * 256 + k := by
        simp only [BitVec.toNat_ofNat]; omega
      rw [hlt]; omega
    · rw [Bus.io_setIo_other _ _ (by omega)]
      exact ih (by omega) (by omega)

/-! ## Soundness -/

theorem Bus.setIo_sound {b : Bus} (i : Nat) (v : Byte) (h1 : 0x8000 ≤ i) (h2 : i < 0x10000) (h : b.Sound) : (b.setIo i v).Sound :=
  { cart := h.cart
    memWf := Memory.write_wf _ _ h.memWf
    memWithin := Memory.write_within _ _ h1 h2 h.memWithin
    extRamWf := h.extRamWf
    extRamWithin := h.extRamWithin
    bankLo := h.bankLo }

theorem Bus.extRamWrite_sound {b : Bus} (n : Nat) (v : Byte) (h : b.Sound) : (b.extRamWrite n v).Sound := by
  unfold Bus.extRamWrite
  split
  · next hp =>
    exact
      { cart := h.cart
        memWf := h.memWf
        memWithin := h.memWithin
        extRamWf := Memory.write_wf _ _ h.extRamWf
        extRamWithin := Memory.write_within _ _ (Nat.zero_le _) (b.extRamIndex_lt n hp) h.extRamWithin
        bankLo := h.bankLo }
  · exact h

theorem Bus.oamCopy_sound {b : Bus} (page : Byte) (n : Nat) (hn : n ≤ 160) (h : b.Sound) : (b.oamCopy page n).Sound := by
  induction n with
  | zero => exact h
  | succ k ih => exact Bus.setIo_sound _ _ (by omega) (by omega) (ih (by omega))

theorem extract5_ne_zero (v : Byte) (h : v &&& 0x1F ≠ 0x00) : v.extractLsb' 0 5 ≠ 0 := by
  revert v; decide

theorem Bus.controlWrite_sound {b : Bus} (n : Nat) (v : Byte) (h : b.Sound) : (b.controlWrite n v).Sound := by
  obtain ⟨hc, hm, he, hd⟩ := b.controlWrite_fields n v
  refine ⟨by rw [hc]; exact h.cart, by rw [hm]; exact h.memWf, by rw [hm]; exact h.memWithin, by rw [he]; exact h.extRamWf,
    by rw [hc, he]; exact h.extRamWithin, ?_⟩
  unfold Bus.controlWrite Bus.mbc1Write
  repeat' split
  all_goals first
    | exact h.bankLo
    | (dsimp only; decide)
    | (dsimp only; exact extract5_ne_zero v ‹_›)

/-- Every bus write keeps a sound bus sound. -/
theorem Bus.write_sound {b : Bus} (a : Word) (v : Byte) (h : b.Sound) : (b.write a v).Sound := by
  have := a.isLt
  unfold Bus.write Bus.dma
  simp only
  repeat' split
  · exact Bus.controlWrite_sound _ v h
  · exact Bus.setIo_sound _ v (by omega) (by omega) h
  · exact Bus.extRamWrite_sound _ v h
  · exact Bus.setIo_sound _ v (by decide) (by decide) (Bus.oamCopy_sound v 160 (Nat.le_refl _) h)
  · exact Bus.setIo_sound _ v (by omega) (by omega) h

end Sys2Proof.Machine
end

