-- ==== Sys2Proof/Laws/Ticks.lean ====
section
/-! SUPPORT. The laws of the tick engine: what each tick leaves, what it does to the I/O registers, what the interrupt tick can do, and
that a T-cycle keeps a sound state sound. -/

namespace Sys2Proof.Machine

/-! ## What the serial and timer ticks leave -/

@[simp] theorem State.serialTick_regs (s : State) : s.serialTick.regs = s.regs := by
  unfold State.serialTick; repeat' split
  all_goals rfl
@[simp] theorem State.serialTick_sp (s : State) : s.serialTick.sp = s.sp := by
  unfold State.serialTick; repeat' split
  all_goals rfl
@[simp] theorem State.serialTick_pc (s : State) : s.serialTick.pc = s.pc := by
  unfold State.serialTick; repeat' split
  all_goals rfl
@[simp] theorem State.serialTick_ime (s : State) : s.serialTick.ime = s.ime := by
  unfold State.serialTick; repeat' split
  all_goals rfl
@[simp] theorem State.serialTick_halt (s : State) : s.serialTick.halt = s.halt := by
  unfold State.serialTick; repeat' split
  all_goals rfl
@[simp] theorem State.serialTick_mCycle (s : State) : s.serialTick.mCycle = s.mCycle := by
  unfold State.serialTick; repeat' split
  all_goals rfl
@[simp] theorem State.serialTick_sysCounter (s : State) : s.serialTick.sysCounter = s.sysCounter := by
  unfold State.serialTick; repeat' split
  all_goals rfl
@[simp] theorem State.serialTick_exeCounter (s : State) : s.serialTick.exeCounter = s.exeCounter := by
  unfold State.serialTick; repeat' split
  all_goals rfl
@[simp] theorem State.serialTick_fault (s : State) : s.serialTick.fault = s.fault := by
  unfold State.serialTick; repeat' split
  all_goals rfl
@[simp] theorem State.serialTick_dispatchCost (s : State) : s.serialTick.dispatchCost = s.dispatchCost := by
  unfold State.serialTick; repeat' split
  all_goals rfl
@[simp] theorem State.serialTick_bus_cart (s : State) : s.serialTick.bus.cart = s.bus.cart := by
  unfold State.serialTick; repeat' split
  all_goals rfl
@[simp] theorem State.serialTick_bus_extRam (s : State) : s.serialTick.bus.extRam = s.bus.extRam := by
  unfold State.serialTick; repeat' split
  all_goals rfl
@[simp] theorem State.serialTick_bus_disabledRead (s : State) : s.serialTick.bus.disabledRead = s.bus.disabledRead := by
  unfold State.serialTick; repeat' split
  all_goals rfl

@[simp] theorem State.divTick_regs (s : State) : s.divTick.regs = s.regs := by
  unfold State.divTick; repeat' split
  all_goals rfl
@[simp] theorem State.divTick_sp (s : State) : s.divTick.sp = s.sp := by
  unfold State.divTick; repeat' split
  all_goals rfl
@[simp] theorem State.divTick_pc (s : State) : s.divTick.pc = s.pc := by
  unfold State.divTick; repeat' split
  all_goals rfl
@[simp] theorem State.divTick_ime (s : State) : s.divTick.ime = s.ime := by
  unfold State.divTick; repeat' split
  all_goals rfl
@[simp] theorem State.divTick_halt (s : State) : s.divTick.halt = s.halt := by
  unfold State.divTick; repeat' split
  all_goals rfl
@[simp] theorem State.divTick_mCycle (s : State) : s.divTick.mCycle = s.mCycle := by
  unfold State.divTick; repeat' split
  all_goals rfl
@[simp] theorem State.divTick_sysCounter (s : State) : s.divTick.sysCounter = s.sysCounter := by
  unfold State.divTick; repeat' split
  all_goals rfl
@[simp] theorem State.divTick_exeCounter (s : State) : s.divTick.exeCounter = s.exeCounter := by
  unfold State.divTick; repeat' split
  all_goals rfl
@[simp] theorem State.divTick_fault (s : State) : s.divTick.fault = s.fault := by
  unfold State.divTick; repeat' split
  all_goals rfl
@[simp] theorem State.divTick_dispatchCost (s : State) : s.divTick.dispatchCost = s.dispatchCost := by
  unfold State.divTick; repeat' split
  all_goals rfl
@[simp] theorem State.divTick_serialBuffer (s : State) : s.divTick.serialBuffer = s.serialBuffer := by
  unfold State.divTick; repeat' split
  all_goals rfl
@[simp] theorem State.divTick_serialPos (s : State) : s.divTick.serialPos = s.serialPos := by
  unfold State.divTick; repeat' split
  all_goals rfl
@[simp] theorem State.divTick_bus_cart (s : State) : s.divTick.bus.cart = s.bus.cart := by
  unfold State.divTick; repeat' split
  all_goals rfl
@[simp] theorem State.divTick_bus_extRam (s : State) : s.divTick.bus.extRam = s.bus.extRam := by
  unfold State.divTick; repeat' split
  all_goals rfl
@[simp] theorem State.divTick_bus_disabledRead (s : State) : s.divTick.bus.disabledRead = s.bus.disabledRead := by
  unfold State.divTick; repeat' split
  all_goals rfl

@[simp] theorem State.timaTick_regs (s : State) : s.timaTick.regs = s.regs := by
  unfold State.timaTick; repeat' split
  all_goals rfl
@[simp] theorem State.timaTick_sp (s : State) : s.timaTick.sp = s.sp := by
  unfold State.timaTick; repeat' split
  all_goals rfl
@[simp] theorem State.timaTick_pc (s : State) : s.timaTick.pc = s.pc := by
  unfold State.timaTick; repeat' split
  all_goals rfl
@[simp] theorem State.timaTick_ime (s : State) : s.timaTick.ime = s.ime := by
  unfold State.timaTick; repeat' split
  all_goals rfl
@[simp] theorem State.timaTick_halt (s : State) : s.timaTick.halt = s.halt := by
  unfold State.timaTick; repeat' split
  all_goals rfl
@[simp] theorem State.timaTick_mCycle (s : State) : s.timaTick.mCycle = s.mCycle := by
  unfold State.timaTick; repeat' split
  all_goals rfl
@[simp] theorem State.timaTick_sysCounter (s : State) : s.timaTick.sysCounter = s.sysCounter := by
  unfold State.timaTick; repeat' split
  all_goals rfl
@[simp] theorem State.timaTick_exeCounter (s : State) : s.timaTick.exeCounter = s.exeCounter := by
  unfold State.timaTick; repeat' split
  all_goals rfl
@[simp] theorem State.timaTick_fault (s : State) : s.timaTick.fault = s.fault := by
  unfold State.timaTick; repeat' split
  all_goals rfl
@[simp] theorem State.timaTick_dispatchCost (s : State) : s.timaTick.dispatchCost = s.dispatchCost := by
  unfold State.timaTick; repeat' split
  all_goals rfl
@[simp] theorem State.timaTick_serialBuffer (s : State) : s.timaTick.serialBuffer = s.serialBuffer := by
  unfold State.timaTick; repeat' split
  all_goals rfl
@[simp] theorem State.timaTick_serialPos (s : State) : s.timaTick.serialPos = s.serialPos := by
  unfold State.timaTick; repeat' split
  all_goals rfl
@[simp] theorem State.timaTick_bus_cart (s : State) : s.timaTick.bus.cart = s.bus.cart := by
  unfold State.timaTick; repeat' split
  all_goals rfl
@[simp] theorem State.timaTick_bus_extRam (s : State) : s.timaTick.bus.extRam = s.bus.extRam := by
  unfold State.timaTick; repeat' split
  all_goals rfl
@[simp] theorem State.timaTick_bus_disabledRead (s : State) : s.timaTick.bus.disabledRead = s.bus.disabledRead := by
  unfold State.timaTick; repeat' split
  all_goals rfl

@[simp] theorem State.timerTick_regs (s : State) : s.timerTick.regs = s.regs := by simp [State.timerTick]
@[simp] theorem State.timerTick_sp (s : State) : s.timerTick.sp = s.sp := by simp [State.timerTick]
@[simp] theorem State.timerTick_pc (s : State) : s.timerTick.pc = s.pc := by simp [State.timerTick]
@[simp] theorem State.timerTick_ime (s : State) : s.timerTick.ime = s.ime := by simp [State.timerTick]
@[simp] theorem State.timerTick_halt (s : State) : s.timerTick.halt = s.halt := by simp [State.timerTick]
@[simp] theorem State.timerTick_mCycle (s : State) : s.timerTick.mCycle = s.mCycle := by simp [State.timerTick]
@[simp] theorem State.timerTick_sysCounter (s : State) : s.timerTick.sysCounter = s.sysCounter := by simp [State.timerTick]
@[simp] theorem State.timerTick_exeCounter (s : State) : s.timerTick.exeCounter = s.exeCounter := by simp [State.timerTick]
@[simp] theorem State.timerTick_fault (s : State) : s.timerTick.fault = s.fault := by simp [State.timerTick]
@[simp] theorem State.timerTick_dispatchCost (s : State) : s.timerTick.dispatchCost = s.dispatchCost := by simp [State.timerTick]
@[simp] theorem State.timerTick_serialBuffer (s : State) : s.timerTick.serialBuffer = s.serialBuffer := by simp [State.timerTick]
@[simp] theorem State.timerTick_serialPos (s : State) : s.timerTick.serialPos = s.serialPos := by simp [State.timerTick]
@[simp] theorem State.timerTick_bus_cart (s : State) : s.timerTick.bus.cart = s.bus.cart := by simp [State.timerTick]
@[simp] theorem State.timerTick_bus_extRam (s : State) : s.timerTick.bus.extRam = s.bus.extRam := by simp [State.timerTick]
@[simp] theorem State.timerTick_bus_disabledRead (s : State) : s.timerTick.bus.disabledRead = s.bus.disabledRead := by simp [State.timerTick]

/-! ## The I/O registers -/

/-- The serial tick touches SC and IF only. -/
theorem State.serialTick_io_other (s : State) {k : Nat} (h1 : k ≠ ioSC) (h2 : k ≠ ioIF) : s.serialTick.bus.io k = s.bus.io k := by
  unfold State.serialTick Bus.request
  split
  · rw [Bus.io_setIo_other _ _ h2, Bus.io_setIo_other _ _ h1]
  · rfl

/-- DIV's tick touches DIV only. -/
theorem State.divTick_io_other (s : State) {k : Nat} (h : k ≠ ioDIV) : s.divTick.bus.io k = s.bus.io k := by
  unfold State.divTick
  split
  · exact Bus.io_setIo_other _ _ h
  · rfl

/-- TIMA's tick touches TIMA and IF only. -/
theorem State.timaTick_io_other (s : State) {k : Nat} (h1 : k ≠ ioTIMA) (h2 : k ≠ ioIF) : s.timaTick.bus.io k = s.bus.io k := by
  unfold State.timaTick Bus.request
  repeat' split
  · rw [Bus.io_setIo_other _ _ h2, Bus.io_setIo_other _ _ h1]
  · exact Bus.io_setIo_other _ _ h1
  · rfl

theorem State.serialTick_read_other (s : State) (x : Word) (h1 : x ≠ 0xFF02) (h2 : x ≠ 0xFF0F) :
    s.serialTick.bus.read x = s.bus.read x := by
  have e1 : x.toNat ≠ ioSC := toNat_ne_of_ne h1
  have e2 : x.toNat ≠ ioIF := toNat_ne_of_ne h2
  unfold State.serialTick Bus.request
  split
  · rw [Bus.read_setIo_other _ _ _ e2, Bus.read_setIo_other _ _ _ e1]
  · rfl

theorem State.timerTick_read_other (s : State) (x : Word) (h1 : x ≠ 0xFF04) (h2 : x ≠ 0xFF05) (h3 : x ≠ 0xFF0F) :
    s.timerTick.bus.read x = s.bus.read x := by
  have e1 : x.toNat ≠ ioDIV := toNat_ne_of_ne h1
  have e2 : x.toNat ≠ ioTIMA := toNat_ne_of_ne h2
  have e3 : x.toNat ≠ ioIF := toNat_ne_of_ne h3
  have hd : s.divTick.bus.read x = s.bus.read x := by
    unfold State.divTick
    split
    · exact Bus.read_setIo_other _ _ _ e1
    · rfl
  unfold State.timerTick State.timaTick Bus.request
  repeat' split
  · rw [Bus.read_setIo_other _ _ _ e3, Bus.read_setIo_other _ _ _ e2, hd]
  · rw [Bus.read_setIo_other _ _ _ e2, hd]
  · exact hd

/-! ## Soundness of the ticks -/

theorem Bus.request_sound {b : Bus} (m : Byte) (h : b.Sound) : (b.request m).Sound :=
  Bus.setIo_sound _ _ (by decide) (by decide) h

theorem State.serialTick_sound {s : State} (h : s.Sound) : s.serialTick.Sound := by
  unfold State.serialTick
  split
  · exact
      { flagNibble := h.flagNibble
        bus := Bus.request_sound _ (Bus.setIo_sound _ _ (by decide) (by decide) h.bus)
        ringWf := Memory.write_wf _ _ h.ringWf
        ringWithin := Memory.write_within _ _ (Nat.zero_le _) s.serialPos.isLt h.ringWithin }
  · exact h

/-- A state of the same registers and ring over a sound bus is sound. -/
theorem State.Sound.withBus {s : State} (h : s.Sound) {b : Bus} (hb : b.Sound) : ({ s with bus := b } : State).Sound :=
  { flagNibble := h.flagNibble, bus := hb, ringWf := h.ringWf, ringWithin := h.ringWithin }

theorem State.divTick_sound {s : State} (h : s.Sound) : s.divTick.Sound := by
  unfold State.divTick
  split
  · exact h.withBus (Bus.setIo_sound _ _ (by decide) (by decide) h.bus)
  · exact h

theorem State.timaTick_sound {s : State} (h : s.Sound) : s.timaTick.Sound := by
  unfold State.timaTick
  repeat' split
  · exact h.withBus (Bus.request_sound _ (Bus.setIo_sound _ _ (by decide) (by decide) h.bus))
  · exact h.withBus (Bus.setIo_sound _ _ (by decide) (by decide) h.bus)
  · exact h

theorem State.timerTick_sound {s : State} (h : s.Sound) : s.timerTick.Sound := State.timaTick_sound (State.divTick_sound h)

/-! ## The interrupt tick -/

/-- No request is pending exactly when the pending set is 0 (R323). -/
theorem lowestRequest_none_iff (p : Byte) : lowestRequest (p &&& 0x1F) = none ↔ p &&& 0x1F = 0 := by
  revert p; decide

set_option maxRecDepth 20000 in
/-- The lowest request is the lowest set bit (R326). -/
theorem lowestRequest_some_iff (p : Byte) (i : Fin 5) :
    lowestRequest p = some i ↔ p.getLsbD i.val = true ∧ ∀ j : Nat, j < i.val → p.getLsbD j = false := by
  revert p i; decide

/-- Everything the interrupt tick can do (R325, R326). -/
theorem State.interruptTick_cases (s : State) :
    (lowestRequest s.pending = none ∧ s.interruptTick = (s, false)) ∨
    (∃ i, lowestRequest s.pending = some i ∧ s.ime = true ∧ s.interruptTick = (s.takeInterrupt i, true)) ∨
    (∃ i, lowestRequest s.pending = some i ∧ s.ime = false ∧ s.interruptTick = ({ s with halt := false }, false)) := by
  unfold State.interruptTick
  split
  · next h => exact .inl ⟨h, rfl⟩
  · next i h =>
    cases hi : s.ime
    · exact .inr (.inr ⟨i, h, rfl, by simp⟩)
    · exact .inr (.inl ⟨i, h, rfl, by simp⟩)

theorem State.takeInterrupt_sound {s : State} (i : Fin 5) (h : s.Sound) : (s.takeInterrupt i).Sound :=
  { flagNibble := h.flagNibble
    bus := Bus.write_sound _ _ (Bus.write_sound _ _ (Bus.setIo_sound _ _ (by decide) (by decide) h.bus))
    ringWf := h.ringWf
    ringWithin := h.ringWithin }

theorem State.interruptTick_sound {s : State} (h : s.Sound) : s.interruptTick.1.Sound := by
  rcases s.interruptTick_cases with ⟨_, e⟩ | ⟨i, _, _, e⟩ | ⟨i, _, _, e⟩ <;> rw [e]
  · exact h
  · exact State.takeInterrupt_sound i h
  · exact { flagNibble := h.flagNibble, bus := h.bus, ringWf := h.ringWf, ringWithin := h.ringWithin }

theorem State.interruptTick_params (s : State) :
    s.interruptTick.1.bus.cart = s.bus.cart ∧ s.interruptTick.1.bus.disabledRead = s.bus.disabledRead ∧
      s.interruptTick.1.dispatchCost = s.dispatchCost ∧ s.interruptTick.1.mCycle = s.mCycle ∧
      s.interruptTick.1.sysCounter = s.sysCounter ∧ s.interruptTick.1.exeCounter = s.exeCounter ∧
      s.interruptTick.1.fault = s.fault ∧ s.interruptTick.1.regs = s.regs := by
  rcases s.interruptTick_cases with ⟨_, e⟩ | ⟨i, _, _, e⟩ | ⟨i, _, _, e⟩ <;> rw [e]
  · exact ⟨rfl, rfl, rfl, rfl, rfl, rfl, rfl, rfl⟩
  · refine ⟨?_, ?_, rfl, rfl, rfl, rfl, rfl, rfl⟩ <;> simp [State.takeInterrupt]
  · exact ⟨rfl, rfl, rfl, rfl, rfl, rfl, rfl, rfl⟩

/-- With IME false the interrupt tick can only clear HALT (R325). -/
theorem State.interruptTick_masked {s : State} (h : s.ime = false) :
    ∃ halt, s.interruptTick = ({ s with halt := halt }, false) := by
  rcases s.interruptTick_cases with ⟨_, e⟩ | ⟨i, _, hi, e⟩ | ⟨i, _, _, e⟩
  · exact ⟨s.halt, e⟩
  · rw [h] at hi; cases hi
  · exact ⟨false, e⟩

/-! ## T-cycles -/

/-- The serial and timer part of a T-cycle (R322). -/
def State.peripheralTick (s : State) : State := (({ s with sysCounter := s.sysCounter + 1 } : State).serialTick).timerTick

theorem State.tcycle_eq (s : State) : s.tcycle = s.peripheralTick.interruptTick := rfl

theorem State.peripheralTick_sound {s : State} (h : s.Sound) : s.peripheralTick.Sound :=
  State.timerTick_sound (State.serialTick_sound
    { flagNibble := h.flagNibble, bus := h.bus, ringWf := h.ringWf, ringWithin := h.ringWithin })

theorem State.tcycle_sound {s : State} (h : s.Sound) : s.tcycle.1.Sound :=
  State.interruptTick_sound (State.peripheralTick_sound h)

theorem State.tcycles_sound {s : State} (n : Nat) (h : s.Sound) : (s.tcycles n).1.Sound := by
  induction n generalizing s with
  | zero => exact h
  | succ k ih => exact ih (State.tcycle_sound h)

/-- What no T-cycle changes, and the count of `sys_counter`. -/
theorem State.tcycle_params (s : State) :
    s.tcycle.1.bus.cart = s.bus.cart ∧ s.tcycle.1.bus.disabledRead = s.bus.disabledRead ∧
      s.tcycle.1.dispatchCost = s.dispatchCost ∧ s.tcycle.1.mCycle = s.mCycle ∧
      s.tcycle.1.sysCounter = s.sysCounter + 1 ∧ s.tcycle.1.exeCounter = s.exeCounter ∧
      s.tcycle.1.fault = s.fault ∧ s.tcycle.1.regs = s.regs := by
  have h := s.peripheralTick.interruptTick_params
  rw [State.tcycle_eq]
  simpa [State.peripheralTick] using h

theorem State.tcycles_params (s : State) (n : Nat) :
    (s.tcycles n).1.bus.cart = s.bus.cart ∧ (s.tcycles n).1.bus.disabledRead = s.bus.disabledRead ∧
      (s.tcycles n).1.dispatchCost = s.dispatchCost ∧ (s.tcycles n).1.mCycle = s.mCycle ∧
      (s.tcycles n).1.sysCounter = s.sysCounter + BitVec.ofNat 16 n ∧ (s.tcycles n).1.exeCounter = s.exeCounter ∧
      (s.tcycles n).1.fault = s.fault ∧ (s.tcycles n).1.regs = s.regs := by
  induction n generalizing s with
  | zero => exact ⟨rfl, rfl, rfl, rfl, by simp [State.tcycles], rfl, rfl, rfl⟩
  | succ k ih =>
    obtain ⟨a1, a2, a3, a4, a5, a6, a7, a8⟩ := s.tcycle_params
    obtain ⟨b1, b2, b3, b4, b5, b6, b7, b8⟩ := ih s.tcycle.1
    refine ⟨b1.trans a1, b2.trans a2, b3.trans a3, b4.trans a4, ?_, b6.trans a6, b7.trans a7, b8.trans a8⟩
    refine b5.trans ?_
    rw [a5, BitVec.add_assoc]
    congr 1
    apply BitVec.eq_of_toNat_eq
    simp [Nat.add_comm]

/-- A T-cycle with IME false dispatches nothing, and changes of the bus only SC, DIV, TIMA and IF. -/
theorem State.tcycle_masked {s : State} (h : s.ime = false) :
    s.tcycle.2 = false ∧ s.tcycle.1.ime = false ∧ s.tcycle.1.sp = s.sp ∧ s.tcycle.1.pc = s.pc ∧
      s.tcycle.1.bus = s.peripheralTick.bus := by
  have hp : s.peripheralTick.ime = false := by simp [State.peripheralTick, h]
  obtain ⟨halt, e⟩ := State.interruptTick_masked hp
  rw [State.tcycle_eq, e]
  refine ⟨rfl, hp, ?_, ?_, rfl⟩ <;> simp [State.peripheralTick]

/-! ## The end of a step -/

theorem State.runEngine_sound {s : State} (h : s.Sound) : s.runEngine.Sound := by
  have h1 := State.tcycles_sound (4 * s.mCycle) h
  unfold State.runEngine
  simp only
  split
  · have h2 := State.tcycles_sound (4 * dispatchMcycles (s.tcycles (4 * s.mCycle)).1.dispatchCost) h1
    exact { flagNibble := h2.flagNibble, bus := h2.bus, ringWf := h2.ringWf, ringWithin := h2.ringWithin }
  · exact h1

theorem State.runEngine_params (s : State) :
    s.runEngine.bus.cart = s.bus.cart ∧ s.runEngine.bus.disabledRead = s.bus.disabledRead ∧
      s.runEngine.dispatchCost = s.dispatchCost ∧ s.runEngine.exeCounter = s.exeCounter ∧ s.runEngine.fault = s.fault ∧
      s.runEngine.regs = s.regs := by
  obtain ⟨a1, a2, a3, a4, a5, a6, a7, a8⟩ := s.tcycles_params (4 * s.mCycle)
  unfold State.runEngine
  simp only
  split
  · obtain ⟨b1, b2, b3, b4, b5, b6, b7, b8⟩ :=
      (s.tcycles (4 * s.mCycle)).1.tcycles_params (4 * dispatchMcycles (s.tcycles (4 * s.mCycle)).1.dispatchCost)
    exact ⟨b1.trans a1, b2.trans a2, b3.trans a3, b6.trans a6, b7.trans a7, b8.trans a8⟩
  · exact ⟨a1, a2, a3, a6, a7, a8⟩

end Sys2Proof.Machine
end

