-- ==== Sys2Proof/Laws/Ops.lean ====
section
/-! SUPPORT. One lemma for each shared operation of the instruction families: it keeps a sound state sound, and what it never writes. -/

namespace Sys2Proof.Machine

/-! ## The states an operation can give -/

/-- A state of sound parts is sound: F's low nibble 0, a sound bus, the ring as it was. -/
theorem State.Sound.of {s t : State} (h : s.Sound) (hf : t.regs.f &&& 0x0F = 0x00) (hb : t.bus.Sound)
    (h1 : t.serialBuffer = s.serialBuffer) : t.Sound :=
  { flagNibble := hf, bus := hb, ringWf := h1 ▸ h.ringWf, ringWithin := h1 ▸ h.ringWithin }

theorem and_nibbles (v : Byte) : (v &&& 0xF0) &&& 0x0F = 0x00 := by revert v; decide

theorem State.setReg_sound {s : State} (r : Reg8) (v : Byte) (h : s.Sound) : (s.setReg r v).Sound :=
  h.of (by simpa using h.flagNibble) h.bus rfl

theorem State.setFlags_sound {s : State} (z n h' c : Option Bool) (h : s.Sound) : (s.setFlags z n h' c).Sound :=
  h.of (and_nibbles _) h.bus rfl

theorem State.set16_sound {s : State} (r : Reg16) (v : Word) (h : s.Sound) : (s.set16 r v).Sound := by
  refine h.of ?_ (by simpa using h.bus) (by simp)
  cases r
  · exact and_nibbles _
  all_goals exact h.flagNibble

theorem State.internal_sound {s : State} (h : s.Sound) : s.internal.Sound := h.of h.flagNibble h.bus rfl

theorem State.memWrite_sound {s : State} (a : Word) (v : Byte) (h : s.Sound) : (s.memWrite a v).Sound :=
  h.of h.flagNibble (Bus.write_sound a v h.bus) rfl

theorem State.memWrite16_sound {s : State} (a v : Word) (h : s.Sound) : (s.memWrite16 a v).Sound :=
  State.memWrite_sound _ _ (State.memWrite_sound _ _ h)

theorem State.push16_sound {s : State} (v : Word) (h : s.Sound) : (s.push16 v).Sound :=
  h.of h.flagNibble (Bus.write_sound _ _ (Bus.write_sound _ _ h.bus)) rfl

theorem State.pop16_sound {s : State} (h : s.Sound) : s.pop16.2.Sound := h.of h.flagNibble h.bus rfl

theorem State.advance_sound {s : State} (n : Nat) (h : s.Sound) : (s.advance n).Sound := h.of h.flagNibble h.bus rfl

theorem State.raise_sound {s : State} (d : DecodeFatal) (h : s.Sound) : (s.raise d).Sound := h.of h.flagNibble h.bus rfl

theorem State.withPc_sound {s : State} (a : Word) (h : s.Sound) : ({ s with pc := a } : State).Sound := h.of h.flagNibble h.bus rfl

theorem State.returnBody_sound {s : State} (h : s.Sound) : s.returnBody.Sound := h.of h.flagNibble h.bus rfl

theorem State.returnFromInterrupt_sound {s : State} (h : s.Sound) : s.returnFromInterrupt.Sound := h.of h.flagNibble h.bus rfl

/-! ## Operands -/

theorem Operand8.adjust_sound (o : Operand8) {s : State} (h : s.Sound) : (o.adjust s).Sound := by
  cases o
  case atHlInc => exact State.set16_sound .hl _ h
  case atHlDec => exact State.set16_sound .hl _ h
  all_goals exact h

theorem load8_sound (o : Operand8) {s : State} (h : s.Sound) : (load8 o s).2.Sound := by
  unfold load8
  split
  · exact h
  · exact Operand8.adjust_sound o (h.of h.flagNibble h.bus rfl)

theorem loadSource8_sound (o : Source8) {s : State} (h : s.Sound) : (loadSource8 o s).2.Sound := by
  cases o with
  | operand o => exact load8_sound o h
  | imm n => exact h

theorem store8_sound (o : Operand8) (v : Byte) {s : State} (h : s.Sound) : (store8 o v s).Sound := by
  unfold store8
  split
  · exact State.setReg_sound _ v h
  · exact Operand8.adjust_sound o (State.memWrite_sound _ v h)

/-! ## The families -/

theorem ld8_sound (dst : Operand8) (src : Source8) {s : State} (h : s.Sound) : (ld8 dst src s).Sound :=
  store8_sound _ _ (loadSource8_sound src h)

theorem ld16_sound (dst : Dest16) (src : Source16) {s : State} (h : s.Sound) : (ld16 dst src s).Sound := by
  cases dst with
  | reg r => exact State.set16_sound r _ h
  | atNn a => exact State.memWrite16_sound a _ h

theorem ldSpFromHl_sound {s : State} (h : s.Sound) : (ldSpFromHl s).Sound := State.set16_sound .sp _ (State.internal_sound h)

theorem ldHlSpOffset_sound (off : Byte) {s : State} (h : s.Sound) : (ldHlSpOffset off s).Sound :=
  State.setFlags_sound _ _ _ _ (State.set16_sound .hl _ (State.internal_sound h))

theorem pushPair_sound (r : Reg16) {s : State} (h : s.Sound) : (pushPair r s).Sound := State.push16_sound _ (State.internal_sound h)

theorem popPair_sound (r : Reg16) {s : State} (h : s.Sound) : (popPair r s).Sound := State.set16_sound r _ (State.pop16_sound h)

theorem accumulate_sound (op : AluOp) (src : Source8) {s : State} (h : s.Sound) : (accumulate op src s).Sound :=
  State.setFlags_sound _ _ _ _ (State.setReg_sound _ _ (loadSource8_sound src h))

theorem inc8_sound (o : Operand8) {s : State} (h : s.Sound) : (inc8 o s).Sound :=
  State.setFlags_sound _ _ _ _ (store8_sound _ _ (load8_sound o h))

theorem dec8_sound (o : Operand8) {s : State} (h : s.Sound) : (dec8 o s).Sound :=
  State.setFlags_sound _ _ _ _ (store8_sound _ _ (load8_sound o h))

theorem decimalAdjust_sound {s : State} (h : s.Sound) : (decimalAdjust s).Sound :=
  State.setFlags_sound _ _ _ _ (State.setReg_sound _ _ h)

theorem complementA_sound {s : State} (h : s.Sound) : (complementA s).Sound :=
  State.setFlags_sound _ _ _ _ (State.setReg_sound _ _ h)

theorem setCarryFlag_sound {s : State} (h : s.Sound) : (setCarryFlag s).Sound := State.setFlags_sound _ _ _ _ h

theorem complementCarryFlag_sound {s : State} (h : s.Sound) : (complementCarryFlag s).Sound := State.setFlags_sound _ _ _ _ h

theorem addToHl_sound (r : Reg16) {s : State} (h : s.Sound) : (addToHl r s).Sound :=
  State.setFlags_sound _ _ _ _ (State.set16_sound .hl _ (State.internal_sound h))

theorem inc16_sound (r : Reg16) {s : State} (h : s.Sound) : (inc16 r s).Sound := State.set16_sound r _ (State.internal_sound h)

theorem dec16_sound (r : Reg16) {s : State} (h : s.Sound) : (dec16 r s).Sound := State.set16_sound r _ (State.internal_sound h)

theorem addToSp_sound (off : Byte) {s : State} (h : s.Sound) : (addToSp off s).Sound :=
  State.setFlags_sound _ _ _ _ (State.set16_sound .sp _ (State.internal_sound (State.internal_sound h)))

theorem rotateA_sound (op : ShiftOp) {s : State} (h : s.Sound) : (rotateA op s).Sound :=
  State.setFlags_sound _ _ _ _ (State.setReg_sound _ _ h)

theorem shift8_sound (op : ShiftOp) (o : Operand8) {s : State} (h : s.Sound) : (shift8 op o s).Sound :=
  State.setFlags_sound _ _ _ _ (store8_sound _ _ (load8_sound o h))

theorem testBit_sound (b : Fin 8) (o : Operand8) {s : State} (h : s.Sound) : (testBit b o s).Sound :=
  State.setFlags_sound _ _ _ _ (load8_sound o h)

theorem clearBit_sound (b : Fin 8) (o : Operand8) {s : State} (h : s.Sound) : (clearBit b o s).Sound :=
  store8_sound _ _ (load8_sound o h)

theorem setBit_sound (b : Fin 8) (o : Operand8) {s : State} (h : s.Sound) : (setBit b o s).Sound :=
  store8_sound _ _ (load8_sound o h)

theorem jump_sound (cc : Option Cond) (a : Word) {s : State} (h : s.Sound) : (jump cc a s).Sound := by
  unfold jump; split
  · exact State.withPc_sound a (State.internal_sound h)
  · exact h

theorem jumpHl_sound {s : State} (h : s.Sound) : (jumpHl s).Sound := State.withPc_sound _ h

theorem jumpRelative_sound (cc : Option Cond) (off : Byte) {s : State} (h : s.Sound) : (jumpRelative cc off s).Sound := by
  unfold jumpRelative; split
  · exact State.withPc_sound _ (State.internal_sound h)
  · exact h

theorem call_sound (cc : Option Cond) (a : Word) {s : State} (h : s.Sound) : (call cc a s).Sound := by
  unfold call; split
  · exact State.withPc_sound a (State.push16_sound _ (State.internal_sound h))
  · exact h

theorem ret_sound {s : State} (h : s.Sound) : (ret s).Sound := State.returnBody_sound h

theorem retCond_sound (cc : Cond) {s : State} (h : s.Sound) : (retCond cc s).Sound := by
  unfold retCond; split
  · exact State.returnBody_sound (State.internal_sound h)
  · exact State.internal_sound h

theorem restart_sound (a : Word) {s : State} (h : s.Sound) : (restart a s).Sound :=
  State.withPc_sound a (State.push16_sound _ (State.internal_sound h))

theorem haltCpu_sound {s : State} (h : s.Sound) : (haltCpu s).Sound := h.of h.flagNibble h.bus rfl

theorem setIme_sound (on : Bool) {s : State} (h : s.Sound) : (setIme on s).Sound := h.of h.flagNibble h.bus rfl

theorem illegalOpcode_sound (op : Byte) {s : State} (h : s.Sound) : (illegalOpcode op s).Sound := State.raise_sound _ h

theorem illegalStopPair_sound (b : Byte) {s : State} (h : s.Sound) : (illegalStopPair b s).Sound := State.raise_sound _ h

theorem pick4_cases {α : Type} {P : α → Prop} (n : BitVec 2) {v0 v1 v2 v3 : α} (h0 : P v0) (h1 : P v1) (h2 : P v2) (h3 : P v3) :
    P (pick4 n v0 v1 v2 v3) := by
  unfold pick4; split <;> assumption

theorem cbPage_sound (cb : Byte) {s : State} (h : s.Sound) : (cbPage cb s).Sound :=
  pick4_cases (P := State.Sound) _ (shift8_sound _ _ h) (testBit_sound _ _ h) (clearBit_sound _ _ h) (setBit_sound _ _ h)

theorem prefixPage_sound {s : State} (h : s.Sound) : (prefixPage s).Sound :=
  cbPage_sound _ (h.of h.flagNibble h.bus rfl)

end Sys2Proof.Machine
end

