-- ==== Sys2Proof/Laws/Exec.lean ====
section
/-! SUPPORT. What holds of the body of every instruction: it answers a next state, and a sound one from a sound one. -/

namespace Sys2Proof.Machine

/-- Every instruction answers a next state. -/
theorem exec_next (i : Instr) (s : State) : ∃ t, exec i s = .next t := by cases i <;> exact ⟨_, rfl⟩

/-- Every instruction keeps a sound state sound. -/
theorem exec_sound {i : Instr} {s t : State} (h : s.Sound) (e : exec i s = .next t) : t.Sound := by
  cases i <;> (injection e with e; subst e) <;> with_reducible first
    | exact h
    | exact shift8_sound _ _ h
    | exact testBit_sound _ _ h
    | exact clearBit_sound _ _ h
    | exact setBit_sound _ _ h
    | exact ld8_sound _ _ h
    | exact accumulate_sound _ _ h
    | exact ld16_sound _ _ h
    | exact ldSpFromHl_sound h
    | exact ldHlSpOffset_sound _ h
    | exact pushPair_sound _ h
    | exact popPair_sound _ h
    | exact inc8_sound _ h
    | exact dec8_sound _ h
    | exact decimalAdjust_sound h
    | exact complementA_sound h
    | exact setCarryFlag_sound h
    | exact complementCarryFlag_sound h
    | exact addToHl_sound _ h
    | exact inc16_sound _ h
    | exact dec16_sound _ h
    | exact addToSp_sound _ h
    | exact rotateA_sound _ h
    | exact jump_sound _ _ h
    | exact jumpHl_sound h
    | exact jumpRelative_sound _ _ h
    | exact call_sound _ _ h
    | exact ret_sound h
    | exact retCond_sound _ h
    | exact State.returnFromInterrupt_sound h
    | exact restart_sound _ h
    | exact haltCpu_sound h
    | exact setIme_sound _ h
    | exact illegalOpcode_sound _ h
    | exact illegalStopPair_sound _ h
    | exact prefixPage_sound h

end Sys2Proof.Machine
end

