-- ==== Sys2Proof/Laws/Flags.lean ====
section
/-! SUPPORT. The laws of words, of the flag byte, and of the ALU primitives: the flag tests of R140 to R144 as comparisons of exact sums. -/

namespace Sys2Proof.Machine

/-! ## Words and their bytes -/

@[simp] theorem append_hiByte_loByte (v : Word) : hiByte v ++ loByte v = v := by
  apply BitVec.eq_of_getLsbD_eq
  intro i hi
  simp only [hiByte, loByte, BitVec.getLsbD_append, BitVec.getLsbD_extractLsb']
  by_cases h : i < 8
  · simp [h]
  · simp [h, show i - 8 < 8 by omega, show 8 + (i - 8) = i by omega]

@[simp] theorem hiByte_append (h l : Byte) : hiByte (h ++ l) = h := by
  apply BitVec.eq_of_getLsbD_eq
  intro i hi
  have := BitVec.getLsbD_append (x := h) (y := l) (i := 8 + i)
  simp only [hiByte, BitVec.getLsbD_extractLsb', hi, decide_true, Bool.true_and]
  refine this.trans ?_
  simp

@[simp] theorem loByte_append (h l : Byte) : loByte (h ++ l) = l := by
  apply BitVec.eq_of_getLsbD_eq
  intro i hi
  have := BitVec.getLsbD_append (x := h) (y := l) (i := i)
  simp only [loByte, BitVec.getLsbD_extractLsb', hi, decide_true, Bool.true_and, Nat.zero_add]
  refine this.trans ?_
  simp [hi]

theorem loByte_toNat (v : Word) : (loByte v).toNat = v.toNat % 256 := by simp [loByte]

/-- R119: an address in the page 0xFF00. -/
theorem highAddr_eq (n : Byte) : highAddr n = 0xFF00 + n.zeroExtend 16 := by revert n; decide

/-! ## The flag byte -/

@[simp] theorem flagByte_mask (z n h c : Bool) : flagByte z n h c &&& 240#8 = flagByte z n h c := by
  cases z <;> cases n <;> cases h <;> cases c <;> rfl

@[simp] theorem flagByte_z (z n h c : Bool) : (flagByte z n h c).getLsbD 7 = z := by
  cases z <;> cases n <;> cases h <;> cases c <;> rfl

@[simp] theorem flagByte_n (z n h c : Bool) : (flagByte z n h c).getLsbD 6 = n := by
  cases z <;> cases n <;> cases h <;> cases c <;> rfl

@[simp] theorem flagByte_h (z n h c : Bool) : (flagByte z n h c).getLsbD 5 = h := by
  cases z <;> cases n <;> cases h <;> cases c <;> rfl

@[simp] theorem flagByte_c (z n h c : Bool) : (flagByte z n h c).getLsbD 4 = c := by
  cases z <;> cases n <;> cases h <;> cases c <;> rfl

/-- R146: what `SetFlags` stores. -/
theorem Regs.setFlags_eq (x : Regs) (z n h c : Option Bool) :
    x.setFlags z n h c = { x with f := flagByte (z.getD x.flagZ) (n.getD x.flagN) (h.getD x.flagH) (c.getD x.flagC) } := by
  unfold Regs.setFlags Regs.setF
  congr 1
  exact flagByte_mask _ _ _ _

@[simp] theorem Regs.setFlags_f (x : Regs) (z n h c : Option Bool) :
    (x.setFlags z n h c).f = flagByte (z.getD x.flagZ) (n.getD x.flagN) (h.getD x.flagH) (c.getD x.flagC) := by
  rw [Regs.setFlags_eq]

/-- A byte whose low nibble is 0 is the flag byte of its flags (R22, R23). -/
theorem flagByte_self (f : Byte) (h : f &&& 0x0F = 0x00) :
    flagByte (f.getLsbD 7) (f.getLsbD 6) (f.getLsbD 5) (f.getLsbD 4) = f := by
  revert f; decide

/-! ## Half carries -/

theorem byte_bit4 (v : Byte) : (v &&& 0x10 != 0x00) = v.getLsbD 4 := by revert v; decide

theorem word_bit12 (v : Word) : (v &&& 0x1000 != 0x0000) = v.getLsbD 12 := by
  have e : (0x1000 : Word) = BitVec.twoPow 16 12 := by decide
  rw [e, BitVec.and_twoPow]
  cases v.getLsbD 12 <;> decide

/-- R140: the half carry of `add8`. -/
theorem add8_half (a b : Byte) : (add8 a b).half = decide (a.toNat % 16 + b.toNat % 16 ≥ 16) := by
  simp only [add8, byte_bit4, BitVec.getLsbD_xor, BitVec.getLsbD_add (show 4 < 8 by decide), BitVec.carry]
  cases a.getLsbD 4 <;> cases b.getLsbD 4 <;> simp

/-- R141: the half borrow of `sub8`. -/
theorem sub8_half (a b : Byte) : (sub8 a b).half = decide (a.toNat % 16 < b.toNat % 16) := by
  have key : (a ^^^ b ^^^ (a - b)).getLsbD 4 = (add8 (a - b) b).half := by
    simp only [add8, byte_bit4, BitVec.getLsbD_xor, BitVec.sub_add_cancel]
    cases a.getLsbD 4 <;> cases b.getLsbD 4 <;> cases (a - b).getLsbD 4 <;> rfl
  simp only [sub8, byte_bit4]
  rw [key, add8_half, decide_eq_decide]
  have := a.isLt
  have := b.isLt
  rw [BitVec.toNat_sub]
  omega

/-- R142: the half carry of `add16`, out of bit 11. -/
theorem add16_half (a b : Word) : (add16 a b).half = decide (a.toNat % 4096 + b.toNat % 4096 ≥ 4096) := by
  simp only [add16, word_bit12, BitVec.getLsbD_xor, BitVec.getLsbD_add (show 12 < 16 by decide), BitVec.carry]
  cases a.getLsbD 12 <;> cases b.getLsbD 12 <;> simp

theorem carryByte_toNat (c : Bool) : (carryByte c).toNat = c.toNat := by cases c <;> rfl

/-- R144: the two-stage addition has the carry and half carry of the one-stage sum. -/
theorem adc8_carry (a b : Byte) (c : Bool) : (adc8 a b c).carry = decide (a.toNat + b.toNat + c.toNat ≥ 256) := by
  have := a.isLt
  have := b.isLt
  have : c.toNat ≤ 1 := by cases c <;> decide
  simp only [adc8, add8, carryByte_toNat, BitVec.toNat_add, Bool.or_eq_decide, decide_eq_decide, decide_eq_true_eq]
  omega

theorem adc8_half (a b : Byte) (c : Bool) : (adc8 a b c).half = decide (a.toNat % 16 + b.toNat % 16 + c.toNat ≥ 16) := by
  have := a.isLt
  have := b.isLt
  have : c.toNat ≤ 1 := by cases c <;> decide
  have h1 : (adc8 a b c).half = ((add8 a b).half || (add8 (add8 a b).res (carryByte c)).half) := rfl
  have h2 : (add8 a b).res = a + b := rfl
  rw [h1, h2, add8_half, add8_half, carryByte_toNat, BitVec.toNat_add, Bool.or_eq_decide, decide_eq_decide]
  simp only [decide_eq_true_eq]
  omega

theorem sbc8_carry (a b : Byte) (c : Bool) : (sbc8 a b c).carry = decide (a.toNat < b.toNat + c.toNat) := by
  have := a.isLt
  have := b.isLt
  have : c.toNat ≤ 1 := by cases c <;> decide
  simp only [sbc8, sub8, carryByte_toNat, BitVec.toNat_sub, Bool.or_eq_decide, decide_eq_decide, decide_eq_true_eq]
  omega

theorem sbc8_half (a b : Byte) (c : Bool) : (sbc8 a b c).half = decide (a.toNat % 16 < b.toNat % 16 + c.toNat) := by
  have := a.isLt
  have := b.isLt
  have : c.toNat ≤ 1 := by cases c <;> decide
  have h1 : (sbc8 a b c).half = ((sub8 a b).half || (sub8 (sub8 a b).res (carryByte c)).half) := rfl
  have h2 : (sub8 a b).res = a - b := rfl
  rw [h1, h2, sub8_half, sub8_half, carryByte_toNat, BitVec.toNat_sub, Bool.or_eq_decide, decide_eq_decide]
  simp only [decide_eq_true_eq]
  omega

theorem adc8_res (a b : Byte) (c : Bool) : (adc8 a b c).res = a + b + carryByte c := rfl

theorem sbc8_res (a b : Byte) (c : Bool) : (sbc8 a b c).res = a - b - carryByte c := rfl

end Sys2Proof.Machine
end

