-- ==== Sys2Proof/Laws/Frame.lean ====
section
/-! SUPPORT. For each shared operation of the instruction families: the control state it keeps, and where it can change a byte. -/

namespace Sys2Proof.Machine

/-! ## What a body keeps -/

/-- `t` has the parts of `s` that only ticks, HALT, and the interrupt instructions write. -/
structure KeepsControl (s t : State) : Prop where
  ime : t.ime = s.ime
  halt : t.halt = s.halt
  sysCounter : t.sysCounter = s.sysCounter
  exeCounter : t.exeCounter = s.exeCounter
  serialBuffer : t.serialBuffer = s.serialBuffer
  serialPos : t.serialPos = s.serialPos
  dispatchCost : t.dispatchCost = s.dispatchCost
  cart : t.bus.cart = s.bus.cart
  disabledRead : t.bus.disabledRead = s.bus.disabledRead

/-- `t` has PC and the fault of `s` too: no branch was taken and nothing raised. -/
structure Straight (s t : State) : Prop extends KeepsControl s t where
  pc : t.pc = s.pc
  fault : t.fault = s.fault

theorem Straight.trans {s t u : State} (h : Straight s t) (g : Straight t u) : Straight s u where
  ime := g.ime.trans h.ime
  halt := g.halt.trans h.halt
  sysCounter := g.sysCounter.trans h.sysCounter
  exeCounter := g.exeCounter.trans h.exeCounter
  serialBuffer := g.serialBuffer.trans h.serialBuffer
  serialPos := g.serialPos.trans h.serialPos
  dispatchCost := g.dispatchCost.trans h.dispatchCost
  cart := g.cart.trans h.cart
  disabledRead := g.disabledRead.trans h.disabledRead
  pc := g.pc.trans h.pc
  fault := g.fault.trans h.fault

/-- A state whose bus and control state are those of `s`. -/
theorem Straight.ofBus {s t : State} (h0 : t.ime = s.ime) (h1 : t.halt = s.halt) (h2 : t.sysCounter = s.sysCounter)
    (h3 : t.exeCounter = s.exeCounter) (h4 : t.serialBuffer = s.serialBuffer) (h5 : t.serialPos = s.serialPos)
    (h6 : t.dispatchCost = s.dispatchCost) (h7 : t.bus = s.bus) (h8 : t.pc = s.pc) (h9 : t.fault = s.fault) : Straight s t :=
  { ime := h0, halt := h1, sysCounter := h2, exeCounter := h3, serialBuffer := h4, serialPos := h5, dispatchCost := h6
    cart := by rw [h7], disabledRead := by rw [h7], pc := h8, fault := h9 }

/-! ## Where a body stores -/

/-- `t`'s bus is that of `s` but for what writes to `as` can change. -/
structure StoresAt (as : List Word) (s t : State) : Prop where
  none : as = [] → t.bus = s.bus
  other : ∀ x : Word, (∀ a ∈ as, ¬reaches a x) → t.bus.read x = s.bus.read x

theorem StoresAt.ofEq {as : List Word} {s t : State} (h : t.bus = s.bus) : StoresAt as s t := ⟨fun _ => h, fun x _ => by rw [h]⟩

theorem StoresAt.one {a : Word} {v : Byte} {s t : State} (h : t.bus = s.bus.write a v) : StoresAt [a] s t :=
  ⟨fun e => (by cases e), fun x hx => by rw [h]; exact Bus.read_write_frame _ _ _ _ (hx a (by simp))⟩

theorem StoresAt.two {a c : Word} {v w : Byte} {s t : State} (h : t.bus = (s.bus.write a v).write c w) : StoresAt [a, c] s t :=
  ⟨fun e => (by cases e), fun x hx => by
    rw [h, Bus.read_write_frame _ _ _ _ (hx c (by simp)), Bus.read_write_frame _ _ _ _ (hx a (by simp))]⟩

theorem StoresAt.after {as : List Word} {s t u : State} (h : t.bus = s.bus) (g : StoresAt as t u) : StoresAt as s u :=
  ⟨fun e => (g.none e).trans h, fun x hx => (g.other x hx).trans (by rw [h])⟩

theorem StoresAt.before {as : List Word} {s t u : State} (g : StoresAt as s t) (h : u.bus = t.bus) : StoresAt as s u :=
  ⟨fun e => h.trans (g.none e), fun x hx => by rw [h]; exact g.other x hx⟩

/-- Where a store to an operand goes. -/
def Operand8.storesAt (o : Operand8) (s : State) : List Word :=
  match o.place s with
  | .reg _ => []
  | .mem a => [a]

/-! ## Operands -/

theorem State.internal_straight (s : State) : Straight s s.internal := .ofBus rfl rfl rfl rfl rfl rfl rfl rfl rfl rfl

theorem State.setFlags_straight (z n h c : Option Bool) (s : State) : Straight s (s.setFlags z n h c) :=
  .ofBus rfl rfl rfl rfl rfl rfl rfl rfl rfl rfl

theorem State.setReg_straight (r : Reg8) (v : Byte) (s : State) : Straight s (s.setReg r v) :=
  .ofBus rfl rfl rfl rfl rfl rfl rfl rfl rfl rfl

theorem State.set16_straight (r : Reg16) (v : Word) (s : State) : Straight s (s.set16 r v) := by
  cases r <;> exact .ofBus rfl rfl rfl rfl rfl rfl rfl rfl rfl rfl

theorem State.memWrite_straight (a : Word) (v : Byte) (s : State) : Straight s (s.memWrite a v) :=
  { State.internal_straight s with cart := Bus.write_cart _ _ _, disabledRead := Bus.write_disabledRead _ _ _ }

theorem State.push16_straight (v : Word) (s : State) : Straight s (s.push16 v) :=
  { State.internal_straight s with
    cart := (Bus.write_cart _ _ _).trans (Bus.write_cart _ _ _)
    disabledRead := (Bus.write_disabledRead _ _ _).trans (Bus.write_disabledRead _ _ _) }

theorem Operand8.adjust_straight (o : Operand8) (s : State) : Straight s (o.adjust s) := by
  cases o <;> exact .ofBus rfl rfl rfl rfl rfl rfl rfl rfl rfl rfl

theorem load8_straight (o : Operand8) (s : State) : Straight s (load8 o s).2 := by
  cases o <;> exact .ofBus rfl rfl rfl rfl rfl rfl rfl rfl rfl rfl

theorem load8_bus (o : Operand8) (s : State) : (load8 o s).2.bus = s.bus := by cases o <;> rfl

theorem loadSource8_straight (o : Source8) (s : State) : Straight s (loadSource8 o s).2 := by
  cases o with
  | operand o => exact load8_straight o s
  | imm n => exact .ofBus rfl rfl rfl rfl rfl rfl rfl rfl rfl rfl

theorem loadSource8_bus (o : Source8) (s : State) : (loadSource8 o s).2.bus = s.bus := by
  cases o with
  | operand o => exact load8_bus o s
  | imm n => rfl

theorem store8_straight (o : Operand8) (v : Byte) (s : State) : Straight s (store8 o v s) := by
  unfold store8
  split
  · exact State.setReg_straight _ v s
  · exact (State.memWrite_straight _ v s).trans (Operand8.adjust_straight o _)

theorem store8_bus (o : Operand8) (v : Byte) (s : State) : StoresAt (o.storesAt s) s (store8 o v s) := by
  cases o
  case reg r => exact .ofEq rfl
  all_goals exact .one rfl

/-- The place of an operand that moves no pointer is where it was after it is loaded. -/
theorem Operand8.storesAt_load8 (o : Operand8) (h : o ≠ .atHlInc ∧ o ≠ .atHlDec) (s : State) :
    o.storesAt (load8 o s).2 = o.storesAt s := by
  cases o
  case atHlInc => exact absurd rfl h.1
  case atHlDec => exact absurd rfl h.2
  all_goals rfl

/-! ## The families -/

theorem ld8_straight (dst : Operand8) (src : Source8) (s : State) : Straight s (ld8 dst src s) :=
  (loadSource8_straight src s).trans (store8_straight _ _ _)

theorem ld8_bus (dst : Operand8) (src : Source8) (s : State) : StoresAt (dst.storesAt (loadSource8 src s).2) s (ld8 dst src s) :=
  .after (loadSource8_bus src s) (store8_bus dst _ _)

theorem ld16_straight (dst : Dest16) (src : Source16) (s : State) : Straight s (ld16 dst src s) := by
  cases dst with
  | reg r => exact State.set16_straight r _ s
  | atNn a => exact (State.memWrite_straight _ _ s).trans (State.memWrite_straight _ _ _)

theorem ldSpFromHl_straight (s : State) : Straight s (ldSpFromHl s) := .ofBus rfl rfl rfl rfl rfl rfl rfl rfl rfl rfl

theorem ldHlSpOffset_straight (off : Byte) (s : State) : Straight s (ldHlSpOffset off s) :=
  .ofBus rfl rfl rfl rfl rfl rfl rfl rfl rfl rfl

theorem pushPair_straight (r : Reg16) (s : State) : Straight s (pushPair r s) :=
  (State.internal_straight s).trans (State.push16_straight _ _)

theorem popPair_straight (r : Reg16) (s : State) : Straight s (popPair r s) := by
  cases r <;> exact .ofBus rfl rfl rfl rfl rfl rfl rfl rfl rfl rfl

theorem accumulate_straight (op : AluOp) (src : Source8) (s : State) : Straight s (accumulate op src s) :=
  ((loadSource8_straight src s).trans (State.setReg_straight _ _ _)).trans (State.setFlags_straight _ _ _ _ _)

theorem inc8_straight (o : Operand8) (s : State) : Straight s (inc8 o s) :=
  ((load8_straight o s).trans (store8_straight o _ _)).trans (State.setFlags_straight _ _ _ _ _)

theorem dec8_straight (o : Operand8) (s : State) : Straight s (dec8 o s) :=
  ((load8_straight o s).trans (store8_straight o _ _)).trans (State.setFlags_straight _ _ _ _ _)

theorem decimalAdjust_straight (s : State) : Straight s (decimalAdjust s) := .ofBus rfl rfl rfl rfl rfl rfl rfl rfl rfl rfl

theorem complementA_straight (s : State) : Straight s (complementA s) := .ofBus rfl rfl rfl rfl rfl rfl rfl rfl rfl rfl

theorem setCarryFlag_straight (s : State) : Straight s (setCarryFlag s) := .ofBus rfl rfl rfl rfl rfl rfl rfl rfl rfl rfl

theorem complementCarryFlag_straight (s : State) : Straight s (complementCarryFlag s) :=
  .ofBus rfl rfl rfl rfl rfl rfl rfl rfl rfl rfl

theorem addToHl_straight (r : Reg16) (s : State) : Straight s (addToHl r s) := .ofBus rfl rfl rfl rfl rfl rfl rfl rfl rfl rfl

theorem inc16_straight (r : Reg16) (s : State) : Straight s (inc16 r s) :=
  (State.internal_straight s).trans (State.set16_straight r _ _)

theorem dec16_straight (r : Reg16) (s : State) : Straight s (dec16 r s) :=
  (State.internal_straight s).trans (State.set16_straight r _ _)

theorem addToSp_straight (off : Byte) (s : State) : Straight s (addToSp off s) := .ofBus rfl rfl rfl rfl rfl rfl rfl rfl rfl rfl

theorem rotateA_straight (op : ShiftOp) (s : State) : Straight s (rotateA op s) := .ofBus rfl rfl rfl rfl rfl rfl rfl rfl rfl rfl

theorem shift8_straight (op : ShiftOp) (o : Operand8) (s : State) : Straight s (shift8 op o s) :=
  ((load8_straight o s).trans (store8_straight o _ _)).trans (State.setFlags_straight _ _ _ _ _)

theorem testBit_straight (b : Fin 8) (o : Operand8) (s : State) : Straight s (testBit b o s) :=
  (load8_straight o s).trans (State.setFlags_straight _ _ _ _ _)

theorem clearBit_straight (b : Fin 8) (o : Operand8) (s : State) : Straight s (clearBit b o s) :=
  (load8_straight o s).trans (store8_straight o _ _)

theorem setBit_straight (b : Fin 8) (o : Operand8) (s : State) : Straight s (setBit b o s) :=
  (load8_straight o s).trans (store8_straight o _ _)

theorem cbPage_straight (cb : Byte) (s : State) : Straight s (cbPage cb s) :=
  pick4_cases (P := Straight s) _ (shift8_straight _ _ _) (testBit_straight _ _ _) (clearBit_straight _ _ _) (setBit_straight _ _ _)

/-- A branch from a state that kept its control state. -/
theorem Straight.branch {s t : State} (h : Straight s t) (a : Word) : KeepsControl s { t with pc := a } :=
  { h.toKeepsControl with }

theorem jump_keeps (cc : Option Cond) (a : Word) (s : State) : KeepsControl s (jump cc a s) := by
  unfold jump; split
  · exact (State.internal_straight s).branch a
  · exact (Straight.ofBus rfl rfl rfl rfl rfl rfl rfl rfl rfl rfl : Straight s s).toKeepsControl

theorem jumpHl_keeps (s : State) : KeepsControl s (jumpHl s) :=
  (Straight.ofBus rfl rfl rfl rfl rfl rfl rfl rfl rfl rfl : Straight s s).branch _

theorem jumpRelative_keeps (cc : Option Cond) (off : Byte) (s : State) : KeepsControl s (jumpRelative cc off s) := by
  unfold jumpRelative; split
  · exact (State.internal_straight s).branch _
  · exact (Straight.ofBus rfl rfl rfl rfl rfl rfl rfl rfl rfl rfl : Straight s s).toKeepsControl

theorem call_keeps (cc : Option Cond) (a : Word) (s : State) : KeepsControl s (call cc a s) := by
  unfold call; split
  · exact ((State.internal_straight s).trans (State.push16_straight _ _)).branch a
  · exact (Straight.ofBus rfl rfl rfl rfl rfl rfl rfl rfl rfl rfl : Straight s s).toKeepsControl

theorem State.returnBody_keeps (s : State) : KeepsControl s s.returnBody :=
  (Straight.ofBus rfl rfl rfl rfl rfl rfl rfl rfl rfl rfl : Straight s s.pop16.2.internal).branch _

theorem ret_keeps (s : State) : KeepsControl s (ret s) := s.returnBody_keeps

theorem retCond_keeps (cc : Cond) (s : State) : KeepsControl s (retCond cc s) := by
  unfold retCond; split
  · exact (Straight.ofBus rfl rfl rfl rfl rfl rfl rfl rfl rfl rfl : Straight s s.internal.pop16.2.internal).branch _
  · exact (State.internal_straight s).toKeepsControl

theorem restart_keeps (a : Word) (s : State) : KeepsControl s (restart a s) :=
  ((State.internal_straight s).trans (State.push16_straight _ _)).branch a

theorem jump_fault (cc : Option Cond) (a : Word) (s : State) : (jump cc a s).fault = s.fault := by unfold jump; split <;> rfl

theorem jumpHl_fault (s : State) : (jumpHl s).fault = s.fault := rfl

theorem jumpRelative_fault (cc : Option Cond) (off : Byte) (s : State) : (jumpRelative cc off s).fault = s.fault := by
  unfold jumpRelative; split <;> rfl

theorem call_fault (cc : Option Cond) (a : Word) (s : State) : (call cc a s).fault = s.fault := by unfold call; split <;> rfl

theorem ret_fault (s : State) : (ret s).fault = s.fault := rfl

theorem retCond_fault (cc : Cond) (s : State) : (retCond cc s).fault = s.fault := by unfold retCond; split <;> rfl

theorem restart_fault (a : Word) (s : State) : (restart a s).fault = s.fault := rfl

/-! ## The bus of the families that store -/

theorem ld16_bus_reg (r : Reg16) (src : Source16) (s : State) : (ld16 (.reg r) src s).bus = s.bus := by cases r <;> rfl

theorem ld16_bus_mem (a : Word) (src : Source16) (s : State) : StoresAt [a, a + 1] s (ld16 (.atNn a) src s) := .two rfl

theorem pushPair_bus (r : Reg16) (s : State) : StoresAt (pushedAt s) s (pushPair r s) := .two rfl

theorem popPair_bus (r : Reg16) (s : State) : (popPair r s).bus = s.bus := by cases r <;> rfl

theorem accumulate_bus (op : AluOp) (src : Source8) (s : State) : (accumulate op src s).bus = s.bus := loadSource8_bus src s

theorem inc16_bus (r : Reg16) (s : State) : (inc16 r s).bus = s.bus := by cases r <;> rfl

theorem dec16_bus (r : Reg16) (s : State) : (dec16 r s).bus = s.bus := by cases r <;> rfl

theorem testBit_bus (b : Fin 8) (o : Operand8) (s : State) : (testBit b o s).bus = s.bus := load8_bus o s

/-- The operand forms that are read and then written back are those that move no pointer. -/
theorem modify_bus (o : Operand8) (v : Byte) (h : o ≠ .atHlInc ∧ o ≠ .atHlDec) (s : State) :
    StoresAt (o.storesAt s) s (store8 o v (load8 o s).2) := by
  rw [← Operand8.storesAt_load8 o h s]
  exact .after (load8_bus o s) (store8_bus o v _)

theorem inc8_bus (o : Operand8) (h : o ≠ .atHlInc ∧ o ≠ .atHlDec) (s : State) : StoresAt (o.storesAt s) s (inc8 o s) :=
  (modify_bus o _ h s).before rfl

theorem dec8_bus (o : Operand8) (h : o ≠ .atHlInc ∧ o ≠ .atHlDec) (s : State) : StoresAt (o.storesAt s) s (dec8 o s) :=
  (modify_bus o _ h s).before rfl

theorem shift8_bus (op : ShiftOp) (o : Operand8) (h : o ≠ .atHlInc ∧ o ≠ .atHlDec) (s : State) :
    StoresAt (o.storesAt s) s (shift8 op o s) := (modify_bus o _ h s).before rfl

theorem clearBit_bus (b : Fin 8) (o : Operand8) (h : o ≠ .atHlInc ∧ o ≠ .atHlDec) (s : State) :
    StoresAt (o.storesAt s) s (clearBit b o s) := modify_bus o _ h s

theorem setBit_bus (b : Fin 8) (o : Operand8) (h : o ≠ .atHlInc ∧ o ≠ .atHlDec) (s : State) :
    StoresAt (o.storesAt s) s (setBit b o s) := modify_bus o _ h s

theorem jump_bus (cc : Option Cond) (a : Word) (s : State) : (jump cc a s).bus = s.bus := by unfold jump; split <;> rfl

theorem jumpRelative_bus (cc : Option Cond) (off : Byte) (s : State) : (jumpRelative cc off s).bus = s.bus := by
  unfold jumpRelative; split <;> rfl

theorem retCond_bus (cc : Cond) (s : State) : (retCond cc s).bus = s.bus := by unfold retCond; split <;> rfl

theorem call_bus (cc : Option Cond) (a : Word) (s : State) :
    StoresAt (if taken cc s then pushedAt s else []) s (call cc a s) := by
  unfold call; split
  · exact .two rfl
  · exact .ofEq rfl

theorem restart_bus (a : Word) (s : State) : StoresAt (pushedAt s) s (restart a s) := .two rfl

/-! ## Every instruction -/

/-- The body of an instruction that is not one of HALT, DI, EI, RETI, PREFIX CB and the undefined encodings goes straight on, or is a
branch. -/
theorem exec_keeps {i : Instr} {s t : State} (e : exec i s = .next t) :
    Straight s t ∨ (writesPc i = true ∧ KeepsControl s t ∧ t.fault = s.fault) ∨
      i ∈ [Instr.halt, .di, .ei, .reti, .prefixCb, .illegalD3, .illegalDB, .illegalDD, .illegalE3, .illegalE4, .illegalEB,
        .illegalEC, .illegalED, .illegalF4, .illegalFC, .illegalFD] ∨ ∃ b, i = .illegalStop b := by
  cases i <;> (injection e with e; subst e)
  all_goals with_reducible first
    | (refine .inl ?_
       first
         | exact shift8_straight _ _ _
         | exact testBit_straight _ _ _
         | exact clearBit_straight _ _ _
         | exact setBit_straight _ _ _
         | exact ld8_straight _ _ _
         | exact accumulate_straight _ _ _
         | exact ld16_straight _ _ _
         | exact ldSpFromHl_straight _
         | exact ldHlSpOffset_straight _ _
         | exact pushPair_straight _ _
         | exact popPair_straight _ _
         | exact inc8_straight _ _
         | exact dec8_straight _ _
         | exact decimalAdjust_straight _
         | exact complementA_straight _
         | exact setCarryFlag_straight _
         | exact complementCarryFlag_straight _
         | exact addToHl_straight _ _
         | exact inc16_straight _ _
         | exact dec16_straight _ _
         | exact addToSp_straight _ _
         | exact rotateA_straight _ _
         | exact .ofBus rfl rfl rfl rfl rfl rfl rfl rfl rfl rfl)
    | (refine .inr (.inl ⟨rfl, ?_, ?_⟩)
       · first
           | exact jump_keeps _ _ _
           | exact jumpHl_keeps _
           | exact jumpRelative_keeps _ _ _
           | exact call_keeps _ _ _
           | exact ret_keeps _
           | exact retCond_keeps _ _
           | exact restart_keeps _ _
       · first
           | exact jump_fault _ _ _
           | exact jumpRelative_fault _ _ _
           | exact call_fault _ _ _
           | exact ret_fault _
           | exact retCond_fault _ _
           | exact restart_fault _ _
           | exact jumpHl_fault _)
    | exact .inr (.inr (.inr ⟨_, rfl⟩))
    | exact .inr (.inr (.inl (by simp only [List.mem_cons, true_or, or_true])))

end Sys2Proof.Machine
end

