-- ==== Sys2Proof/Tests/Slice0.lean ====
section
/-! SUPPORT. Tests: the refusal of the ill-formed terms, the decoding of every row, single steps with the results of 95_test_vectors.md (a
test's name is its vector's), the start of the machine, and for each obligation that has hypotheses a state that meets them. -/

namespace Sys2Proof.Tests

open Machine

set_option maxRecDepth 4000

/-! ## Helpers -/

/-- The registers of the vectors' defaults. -/
def zeroRegs : Regs := ⟨0, 0, 0, 0, 0, 0, 0, 0⟩

/-- The defaults of 95_test_vectors.md, with code at PC: a cartridge by its three header bytes, further ROM and memory cells. -/
def code (bytes : List Byte) (pc : Word := 0x0200) (mem : Memory := []) (cart : CartType × Fin 9 × Fin 6 := (.romOnly, 0, 0))
    (rom : Memory := []) : State :=
  let header : Memory := [(0x147, cart.1.code), (0x148, BitVec.ofNat 8 cart.2.1.val), (0x149, BitVec.ofNat 8 cart.2.2.val)]
  let image := Memory.ofCells 0 (romSizeOf cart.2.1.val) (header ++ bytes.mapIdx (fun k v => (pc.toNat + k, v)) ++ rom)
  let s := State.ofParams { rom := image, cartType := cart.1, romCode := cart.2.1, ramCode := cart.2.2 } { memInit := mem }
  { s with pc := pc }

/-- A state with another bus. -/
def withBus (s : State) (f : Bus → Bus) : State := { s with bus := f s.bus }

/-- The state after one step. -/
def ran (s : State) : State :=
  match step s with
  | .next t => t
  | .fault _ => s
  | .refused _ => s

/-- The state after the tick engine's work for one M-cycle. -/
def ticked (s : State) : State := { s with mCycle := 1 }.runEngine

/-! ## WellFormed -/

theorem test_wellFormed_refuses_illegal_stop_zero : (Instr.illegalStop 0x00).wellFormed = false := by decide

theorem test_wellFormed_takes_illegal_stop_one : (Instr.illegalStop 0x01).wellFormed = true := by decide

/-! ## Decoding (the grids of R123 and R124, sixteen opcodes a theorem) -/

theorem test_decode_0 :
    ([0x00, 0x01, 0x02, 0x03, 0x04, 0x05, 0x06, 0x07, 0x08, 0x09, 0x0A, 0x0B, 0x0C, 0x0D, 0x0E,
        0x0F] : List Byte).map (fun op => decode [op, 0x34, 0x12]) =
      [.nop, (.ldBcNn 0x1234), .ldAtBcA, .incBc, .incB, .decB, (.ldBN8 0x34), .rlca, (.ldAtNnSp 0x1234), .addHlBc, .ldAAtBc, .decBc,
        .incC, .decC, (.ldCN8 0x34), .rrca].map .ok := by decide

theorem test_decode_1 :
    ([0x10, 0x11, 0x12, 0x13, 0x14, 0x15, 0x16, 0x17, 0x18, 0x19, 0x1A, 0x1B, 0x1C, 0x1D, 0x1E,
        0x1F] : List Byte).map (fun op => decode [op, 0x34, 0x12]) =
      [(.illegalStop 0x34), (.ldDeNn 0x1234), .ldAtDeA, .incDe, .incD, .decD, (.ldDN8 0x34), .rla, (.jrE8 0x34), .addHlDe, .ldAAtDe,
        .decDe, .incE, .decE, (.ldEN8 0x34), .rra].map .ok := by decide

theorem test_decode_2 :
    ([0x20, 0x21, 0x22, 0x23, 0x24, 0x25, 0x26, 0x27, 0x28, 0x29, 0x2A, 0x2B, 0x2C, 0x2D, 0x2E,
        0x2F] : List Byte).map (fun op => decode [op, 0x34, 0x12]) =
      [(.jrNzE8 0x34), (.ldHlNn 0x1234), .ldAtHlIncA, .incHl, .incH, .decH, (.ldHN8 0x34), .daa, (.jrZE8 0x34), .addHlHl, .ldAAtHlInc,
        .decHl, .incL, .decL, (.ldLN8 0x34), .cpl].map .ok := by decide

theorem test_decode_3 :
    ([0x30, 0x31, 0x32, 0x33, 0x34, 0x35, 0x36, 0x37, 0x38, 0x39, 0x3A, 0x3B, 0x3C, 0x3D, 0x3E,
        0x3F] : List Byte).map (fun op => decode [op, 0x34, 0x12]) =
      [(.jrNcE8 0x34), (.ldSpNn 0x1234), .ldAtHlDecA, .incSp, .incAtHl, .decAtHl, (.ldAtHlN8 0x34), .scf, (.jrCE8 0x34), .addHlSp,
        .ldAAtHlDec, .decSp, .incA, .decA, (.ldAN8 0x34), .ccf].map .ok := by decide

theorem test_decode_4 :
    ([0x40, 0x41, 0x42, 0x43, 0x44, 0x45, 0x46, 0x47, 0x48, 0x49, 0x4A, 0x4B, 0x4C, 0x4D, 0x4E,
        0x4F] : List Byte).map (fun op => decode [op, 0x34, 0x12]) =
      [.ldBB, .ldBC, .ldBD, .ldBE, .ldBH, .ldBL, .ldBAtHl, .ldBA, .ldCB, .ldCC, .ldCD, .ldCE, .ldCH, .ldCL, .ldCAtHl,
        .ldCA].map .ok := by decide

theorem test_decode_5 :
    ([0x50, 0x51, 0x52, 0x53, 0x54, 0x55, 0x56, 0x57, 0x58, 0x59, 0x5A, 0x5B, 0x5C, 0x5D, 0x5E,
        0x5F] : List Byte).map (fun op => decode [op, 0x34, 0x12]) =
      [.ldDB, .ldDC, .ldDD, .ldDE, .ldDH, .ldDL, .ldDAtHl, .ldDA, .ldEB, .ldEC, .ldED, .ldEE, .ldEH, .ldEL, .ldEAtHl,
        .ldEA].map .ok := by decide

theorem test_decode_6 :
    ([0x60, 0x61, 0x62, 0x63, 0x64, 0x65, 0x66, 0x67, 0x68, 0x69, 0x6A, 0x6B, 0x6C, 0x6D, 0x6E,
        0x6F] : List Byte).map (fun op => decode [op, 0x34, 0x12]) =
      [.ldHB, .ldHC, .ldHD, .ldHE, .ldHH, .ldHL, .ldHAtHl, .ldHA, .ldLB, .ldLC, .ldLD, .ldLE, .ldLH, .ldLL, .ldLAtHl,
        .ldLA].map .ok := by decide

theorem test_decode_7 :
    ([0x70, 0x71, 0x72, 0x73, 0x74, 0x75, 0x76, 0x77, 0x78, 0x79, 0x7A, 0x7B, 0x7C, 0x7D, 0x7E,
        0x7F] : List Byte).map (fun op => decode [op, 0x34, 0x12]) =
      [.ldAtHlB, .ldAtHlC, .ldAtHlD, .ldAtHlE, .ldAtHlH, .ldAtHlL, .halt, .ldAtHlA, .ldAB, .ldAC, .ldAD, .ldAE, .ldAH, .ldAL, .ldAAtHl,
        .ldAA].map .ok := by decide

theorem test_decode_8 :
    ([0x80, 0x81, 0x82, 0x83, 0x84, 0x85, 0x86, 0x87, 0x88, 0x89, 0x8A, 0x8B, 0x8C, 0x8D, 0x8E,
        0x8F] : List Byte).map (fun op => decode [op, 0x34, 0x12]) =
      [.addAB, .addAC, .addAD, .addAE, .addAH, .addAL, .addAAtHl, .addAA, .adcAB, .adcAC, .adcAD, .adcAE, .adcAH, .adcAL, .adcAAtHl,
        .adcAA].map .ok := by decide

theorem test_decode_9 :
    ([0x90, 0x91, 0x92, 0x93, 0x94, 0x95, 0x96, 0x97, 0x98, 0x99, 0x9A, 0x9B, 0x9C, 0x9D, 0x9E,
        0x9F] : List Byte).map (fun op => decode [op, 0x34, 0x12]) =
      [.subB, .subC, .subD, .subE, .subH, .subL, .subAtHl, .subA, .sbcAB, .sbcAC, .sbcAD, .sbcAE, .sbcAH, .sbcAL, .sbcAAtHl,
        .sbcAA].map .ok := by decide

theorem test_decode_A :
    ([0xA0, 0xA1, 0xA2, 0xA3, 0xA4, 0xA5, 0xA6, 0xA7, 0xA8, 0xA9, 0xAA, 0xAB, 0xAC, 0xAD, 0xAE,
        0xAF] : List Byte).map (fun op => decode [op, 0x34, 0x12]) =
      [.andB, .andC, .andD, .andE, .andH, .andL, .andAtHl, .andA, .xorB, .xorC, .xorD, .xorE, .xorH, .xorL, .xorAtHl,
        .xorA].map .ok := by decide

theorem test_decode_B :
    ([0xB0, 0xB1, 0xB2, 0xB3, 0xB4, 0xB5, 0xB6, 0xB7, 0xB8, 0xB9, 0xBA, 0xBB, 0xBC, 0xBD, 0xBE,
        0xBF] : List Byte).map (fun op => decode [op, 0x34, 0x12]) =
      [.orB, .orC, .orD, .orE, .orH, .orL, .orAtHl, .orA, .cpB, .cpC, .cpD, .cpE, .cpH, .cpL, .cpAtHl, .cpA].map .ok := by decide

theorem test_decode_C :
    ([0xC0, 0xC1, 0xC2, 0xC3, 0xC4, 0xC5, 0xC6, 0xC7, 0xC8, 0xC9, 0xCA, 0xCC, 0xCD, 0xCE, 0xCF] : List Byte).map (fun op => decode [op,
        0x34, 0x12]) =
      [.retNz, .popBc, (.jpNzNn 0x1234), (.jpNn 0x1234), (.callNzNn 0x1234), .pushBc, (.addAN8 0x34), .rst00, .retZ, .ret,
        (.jpZNn 0x1234), (.callZNn 0x1234), (.callNn 0x1234), (.adcAN8 0x34), .rst08].map .ok := by decide

theorem test_decode_D :
    ([0xD0, 0xD1, 0xD2, 0xD3, 0xD4, 0xD5, 0xD6, 0xD7, 0xD8, 0xD9, 0xDA, 0xDB, 0xDC, 0xDD, 0xDE,
        0xDF] : List Byte).map (fun op => decode [op, 0x34, 0x12]) =
      [.retNc, .popDe, (.jpNcNn 0x1234), .illegalD3, (.callNcNn 0x1234), .pushDe, (.subN8 0x34), .rst10, .retC, .reti, (.jpCNn 0x1234),
        .illegalDB, (.callCNn 0x1234), .illegalDD, (.sbcAN8 0x34), .rst18].map .ok := by decide

theorem test_decode_E :
    ([0xE0, 0xE1, 0xE2, 0xE3, 0xE4, 0xE5, 0xE6, 0xE7, 0xE8, 0xE9, 0xEA, 0xEB, 0xEC, 0xED, 0xEE,
        0xEF] : List Byte).map (fun op => decode [op, 0x34, 0x12]) =
      [(.ldhAtN8A 0x34), .popHl, .ldAtCA, .illegalE3, .illegalE4, .pushHl, (.andN8 0x34), .rst20, (.addSpE8 0x34), .jpHl,
        (.ldAtNnA 0x1234), .illegalEB, .illegalEC, .illegalED, (.xorN8 0x34), .rst28].map .ok := by decide

theorem test_decode_F :
    ([0xF0, 0xF1, 0xF2, 0xF3, 0xF4, 0xF5, 0xF6, 0xF7, 0xF8, 0xF9, 0xFA, 0xFB, 0xFC, 0xFD, 0xFE,
        0xFF] : List Byte).map (fun op => decode [op, 0x34, 0x12]) =
      [(.ldhAAtN8 0x34), .popAf, .ldAAtC, .di, .illegalF4, .pushAf, (.orN8 0x34), .rst30, (.ldHlSpE8 0x34), .ldSpHl, (.ldAAtNn 0x1234),
        .ei, .illegalFC, .illegalFD, (.cpN8 0x34), .rst38].map .ok := by decide

theorem test_decode_cb_0 :
    ([0x00, 0x01, 0x02, 0x03, 0x04, 0x05, 0x06, 0x07, 0x08, 0x09, 0x0A, 0x0B, 0x0C, 0x0D, 0x0E,
        0x0F] : List Byte).map (fun cb => decode [0xCB, cb]) =
      [.rlcB, .rlcC, .rlcD, .rlcE, .rlcH, .rlcL, .rlcAtHl, .rlcA, .rrcB, .rrcC, .rrcD, .rrcE, .rrcH, .rrcL, .rrcAtHl,
        .rrcA].map .ok := by decide

theorem test_decode_cb_1 :
    ([0x10, 0x11, 0x12, 0x13, 0x14, 0x15, 0x16, 0x17, 0x18, 0x19, 0x1A, 0x1B, 0x1C, 0x1D, 0x1E,
        0x1F] : List Byte).map (fun cb => decode [0xCB, cb]) =
      [.rlB, .rlC, .rlD, .rlE, .rlH, .rlL, .rlAtHl, .rlA, .rrB, .rrC, .rrD, .rrE, .rrH, .rrL, .rrAtHl, .rrA].map .ok := by decide

theorem test_decode_cb_2 :
    ([0x20, 0x21, 0x22, 0x23, 0x24, 0x25, 0x26, 0x27, 0x28, 0x29, 0x2A, 0x2B, 0x2C, 0x2D, 0x2E,
        0x2F] : List Byte).map (fun cb => decode [0xCB, cb]) =
      [.slaB, .slaC, .slaD, .slaE, .slaH, .slaL, .slaAtHl, .slaA, .sraB, .sraC, .sraD, .sraE, .sraH, .sraL, .sraAtHl,
        .sraA].map .ok := by decide

theorem test_decode_cb_3 :
    ([0x30, 0x31, 0x32, 0x33, 0x34, 0x35, 0x36, 0x37, 0x38, 0x39, 0x3A, 0x3B, 0x3C, 0x3D, 0x3E,
        0x3F] : List Byte).map (fun cb => decode [0xCB, cb]) =
      [.swapB, .swapC, .swapD, .swapE, .swapH, .swapL, .swapAtHl, .swapA, .srlB, .srlC, .srlD, .srlE, .srlH, .srlL, .srlAtHl,
        .srlA].map .ok := by decide

theorem test_decode_cb_4 :
    ([0x40, 0x41, 0x42, 0x43, 0x44, 0x45, 0x46, 0x47, 0x48, 0x49, 0x4A, 0x4B, 0x4C, 0x4D, 0x4E,
        0x4F] : List Byte).map (fun cb => decode [0xCB, cb]) =
      [.bit0B, .bit0C, .bit0D, .bit0E, .bit0H, .bit0L, .bit0AtHl, .bit0A, .bit1B, .bit1C, .bit1D, .bit1E, .bit1H, .bit1L, .bit1AtHl,
        .bit1A].map .ok := by decide

theorem test_decode_cb_5 :
    ([0x50, 0x51, 0x52, 0x53, 0x54, 0x55, 0x56, 0x57, 0x58, 0x59, 0x5A, 0x5B, 0x5C, 0x5D, 0x5E,
        0x5F] : List Byte).map (fun cb => decode [0xCB, cb]) =
      [.bit2B, .bit2C, .bit2D, .bit2E, .bit2H, .bit2L, .bit2AtHl, .bit2A, .bit3B, .bit3C, .bit3D, .bit3E, .bit3H, .bit3L, .bit3AtHl,
        .bit3A].map .ok := by decide

theorem test_decode_cb_6 :
    ([0x60, 0x61, 0x62, 0x63, 0x64, 0x65, 0x66, 0x67, 0x68, 0x69, 0x6A, 0x6B, 0x6C, 0x6D, 0x6E,
        0x6F] : List Byte).map (fun cb => decode [0xCB, cb]) =
      [.bit4B, .bit4C, .bit4D, .bit4E, .bit4H, .bit4L, .bit4AtHl, .bit4A, .bit5B, .bit5C, .bit5D, .bit5E, .bit5H, .bit5L, .bit5AtHl,
        .bit5A].map .ok := by decide

theorem test_decode_cb_7 :
    ([0x70, 0x71, 0x72, 0x73, 0x74, 0x75, 0x76, 0x77, 0x78, 0x79, 0x7A, 0x7B, 0x7C, 0x7D, 0x7E,
        0x7F] : List Byte).map (fun cb => decode [0xCB, cb]) =
      [.bit6B, .bit6C, .bit6D, .bit6E, .bit6H, .bit6L, .bit6AtHl, .bit6A, .bit7B, .bit7C, .bit7D, .bit7E, .bit7H, .bit7L, .bit7AtHl,
        .bit7A].map .ok := by decide

theorem test_decode_cb_8 :
    ([0x80, 0x81, 0x82, 0x83, 0x84, 0x85, 0x86, 0x87, 0x88, 0x89, 0x8A, 0x8B, 0x8C, 0x8D, 0x8E,
        0x8F] : List Byte).map (fun cb => decode [0xCB, cb]) =
      [.res0B, .res0C, .res0D, .res0E, .res0H, .res0L, .res0AtHl, .res0A, .res1B, .res1C, .res1D, .res1E, .res1H, .res1L, .res1AtHl,
        .res1A].map .ok := by decide

theorem test_decode_cb_9 :
    ([0x90, 0x91, 0x92, 0x93, 0x94, 0x95, 0x96, 0x97, 0x98, 0x99, 0x9A, 0x9B, 0x9C, 0x9D, 0x9E,
        0x9F] : List Byte).map (fun cb => decode [0xCB, cb]) =
      [.res2B, .res2C, .res2D, .res2E, .res2H, .res2L, .res2AtHl, .res2A, .res3B, .res3C, .res3D, .res3E, .res3H, .res3L, .res3AtHl,
        .res3A].map .ok := by decide

theorem test_decode_cb_A :
    ([0xA0, 0xA1, 0xA2, 0xA3, 0xA4, 0xA5, 0xA6, 0xA7, 0xA8, 0xA9, 0xAA, 0xAB, 0xAC, 0xAD, 0xAE,
        0xAF] : List Byte).map (fun cb => decode [0xCB, cb]) =
      [.res4B, .res4C, .res4D, .res4E, .res4H, .res4L, .res4AtHl, .res4A, .res5B, .res5C, .res5D, .res5E, .res5H, .res5L, .res5AtHl,
        .res5A].map .ok := by decide

theorem test_decode_cb_B :
    ([0xB0, 0xB1, 0xB2, 0xB3, 0xB4, 0xB5, 0xB6, 0xB7, 0xB8, 0xB9, 0xBA, 0xBB, 0xBC, 0xBD, 0xBE,
        0xBF] : List Byte).map (fun cb => decode [0xCB, cb]) =
      [.res6B, .res6C, .res6D, .res6E, .res6H, .res6L, .res6AtHl, .res6A, .res7B, .res7C, .res7D, .res7E, .res7H, .res7L, .res7AtHl,
        .res7A].map .ok := by decide

theorem test_decode_cb_C :
    ([0xC0, 0xC1, 0xC2, 0xC3, 0xC4, 0xC5, 0xC6, 0xC7, 0xC8, 0xC9, 0xCA, 0xCB, 0xCC, 0xCD, 0xCE,
        0xCF] : List Byte).map (fun cb => decode [0xCB, cb]) =
      [.set0B, .set0C, .set0D, .set0E, .set0H, .set0L, .set0AtHl, .set0A, .set1B, .set1C, .set1D, .set1E, .set1H, .set1L, .set1AtHl,
        .set1A].map .ok := by decide

theorem test_decode_cb_D :
    ([0xD0, 0xD1, 0xD2, 0xD3, 0xD4, 0xD5, 0xD6, 0xD7, 0xD8, 0xD9, 0xDA, 0xDB, 0xDC, 0xDD, 0xDE,
        0xDF] : List Byte).map (fun cb => decode [0xCB, cb]) =
      [.set2B, .set2C, .set2D, .set2E, .set2H, .set2L, .set2AtHl, .set2A, .set3B, .set3C, .set3D, .set3E, .set3H, .set3L, .set3AtHl,
        .set3A].map .ok := by decide

theorem test_decode_cb_E :
    ([0xE0, 0xE1, 0xE2, 0xE3, 0xE4, 0xE5, 0xE6, 0xE7, 0xE8, 0xE9, 0xEA, 0xEB, 0xEC, 0xED, 0xEE,
        0xEF] : List Byte).map (fun cb => decode [0xCB, cb]) =
      [.set4B, .set4C, .set4D, .set4E, .set4H, .set4L, .set4AtHl, .set4A, .set5B, .set5C, .set5D, .set5E, .set5H, .set5L, .set5AtHl,
        .set5A].map .ok := by decide

theorem test_decode_cb_F :
    ([0xF0, 0xF1, 0xF2, 0xF3, 0xF4, 0xF5, 0xF6, 0xF7, 0xF8, 0xF9, 0xFA, 0xFB, 0xFC, 0xFD, 0xFE,
        0xFF] : List Byte).map (fun cb => decode [0xCB, cb]) =
      [.set6B, .set6C, .set6D, .set6E, .set6H, .set6L, .set6AtHl, .set6A, .set7B, .set7C, .set7D, .set7E, .set7H, .set7L, .set7AtHl,
        .set7A].map .ok := by decide
theorem test_decode_cb_prefix_row : decode [0xCB] = .ok .prefixCb := by decide

theorem test_decode_stop : decode [0x10, 0x00] = .ok .stop := by decide

theorem test_decode_truncated : decode [0xCD, 0x00] = .error (.truncated 0xCD) ∧ decode [] = .error .noByte := by decide

/-- `LD (HL),n8` is 00 110 110, its byte after it. -/
theorem test_decode_bits_load8 : decode [0b00110110, 0b10100101] = .ok (.ldAtHlN8 0xA5) := by decide

/-- `LD SP,nn` is 00 11 0001, low byte first. -/
theorem test_decode_bits_load16 : decode [0b00110001, 0x34, 0x12] = .ok (.ldSpNn 0x1234) := by decide

/-- `SBC A,(HL)` is 10 011 110. -/
theorem test_decode_bits_alu8 : decode [0b10011110] = .ok .sbcAAtHl := by decide

/-- `DEC DE` is 00 01 1011. -/
theorem test_decode_bits_alu16 : decode [0b00011011] = .ok .decDe := by decide

/-- `SRA D` is the CB page's 00 101 010. -/
theorem test_decode_bits_rotate : decode [0xCB, 0b00101010] = .ok .sraD := by decide

/-- `BIT 6,(HL)` is the CB page's 01 110 110. -/
theorem test_decode_bits_bit : decode [0xCB, 0b01110110] = .ok .bit6AtHl := by decide

/-- `CALL NC,nn` is 110 10 100. -/
theorem test_decode_bits_control : decode [0b11010100, 0x34, 0x12] = .ok (.callNcNn 0x1234) := by decide

/-- `EI` is 11 111 011. -/
theorem test_decode_bits_system : decode [0b11111011] = .ok .ei := by decide

/-! ## The host's table words -/

theorem test_table_word_one_byte : decodeTableWord 8 0x76 = some .halt ∧ decodeTableWord 8 0xCB = some .prefixCb := by decide

theorem test_table_word_operands_zero : decodeTableWord 8 0x08 = some (.ldAtNnSp 0x0000) := by decide

theorem test_table_word_two_bytes :
    decodeTableWord 16 0xCB37 = some .swapA ∧ decodeTableWord 16 0x1000 = some .stop ∧
      decodeTableWord 16 0x1001 = some (.illegalStop 0x01) := by decide

theorem test_fetch_word_increments : (ran (State.reset.withFetchWord 8 0x3C)).regs.a = 0x01 := by decide

theorem test_fetch_word_swap : (ran ({ State.reset with regs := { zeroRegs with a := 0x5A } }.withFetchWord 16 0xCB37)).regs.a = 0xA5 := by
  decide

theorem test_fetch_word_in_ram : (ran ({ State.reset with pc := 0xC000, halt := true }.withFetchWord 8 0xF3)).pc = 0xC001 := by decide

theorem test_reset_memory_is_canonical :
    Memory.wf State.reset.bus.mem = true ∧ Memory.wf State.reset.bus.extRam = true ∧ Memory.wf State.reset.bus.cart.rom = true := by decide

/-! ## Power-on (R370, R373) -/

/-- The Z vectors: a 32 KiB image with three header bytes. -/
def image (length : Nat) (t n k : Byte) : RomImage := { length := length, cells := [(0x147, t), (0x148, n), (0x149, k)] }

theorem test_powerOn_blank : powerOn (image 0x8000 0x00 0x00 0x00) {} = .ok State.reset := by decide

theorem test_powerOn_short_image : powerOn (image 0x7FFF 0x00 0x00 0x00) {} = .error .romImage := by decide

theorem test_powerOn_rom_code : powerOn (image 0x8000 0x00 0x09 0x00) {} = .error .romSize := by decide

theorem test_powerOn_rom_length : powerOn (image 0x8000 0x00 0x01 0x00) {} = .error .romSize := by decide

theorem test_powerOn_ram_code : powerOn (image 0x8000 0x00 0x00 0x06) {} = .error .ramSize := by decide

theorem test_powerOn_cart_type : powerOn (image 0x8000 0x05 0x00 0x00) {} = .error .cartType := by decide

theorem test_powerOn_allocation : powerOn { image 0x8000 0x00 0x00 0x00 with allocatable := false } {} = .error .allocation := by decide

/-! ## The bus (M3, M10, M11, M14, M17, M22, M26) -/

theorem test_mbc1_control_writes :
    let b := (code [] (cart := (.mbc1RamBattery, 2, 3))).bus
    (b.write 0x3FFF 0x20).romBankLo = 1 ∧ (b.write 0x2000 0xE5).romBankLo = 5 ∧
      ((b.write 0x0000 0x0A).write 0x1FFF 0x0B).ramEnabled = false ∧ (code []).bus.write 0x2000 0x05 = (code []).bus := by decide

theorem test_banked_reads :
    let b := (code [] (cart := (.mbc1, 2, 0)) (rom := [(0x14000, 0x5A)])).bus
    let small := (code [] (cart := (.mbc1, 0, 0)) (rom := [(0x4000, 0x33)])).bus
    (b.write 0x2000 0x05).read 0x4000 = 0x5A ∧ (small.write 0x2000 0x03).read 0x4000 = 0x33 := by decide

theorem test_ext_ram_bank_needs_mode :
    let b := { (code [] (cart := (.mbc1RamBattery, 2, 3))).bus with ramEnabled := true, romBankHi := 2 }
    Memory.read (b.write 0xA123 0x77).extRam 0x0123 = 0x77 := by decide

theorem test_no_echo : (code [] (mem := [(0xC000, 0x12)])).bus.read 0xE000 = 0x00 := by decide

/-! ## DMA (R75): the first three bytes of the copy -/

theorem test_dma_copies :
    let b := ((code [] (mem := [(0xC000, 0x01), (0xC001, 0x02)])).bus).oamCopy 0xC0 3
    b.io 0xFE00 = 0x01 ∧ b.io 0xFE01 = 0x02 ∧ b.io 0xFE02 = 0x00 := by decide

/-! ## DAA (R239), from the table of 95_test_vectors.md -/

theorem test_daa_after_add : daaResult 0x9A false false false = (0x00, true) := by decide

theorem test_daa_after_sub : daaResult 0xFF true true true = (0x99, true) := by decide

/-! ## Single steps (95_test_vectors.md) -/

/-- M13: `LD A,(0x7FFF)`. -/
theorem test_M13 :
    let t := ran (withBus (code [0xFA, 0xFF, 0x7F] (cart := (.mbc1, 2, 0)) (rom := [(0x7FFF, 0x22)]))
      fun b => { b with romBankHi := 1 })
    t.regs.a = 0x22 ∧ t.pc = 0x0203 ∧ t.mCycle = 4 := by decide

/-- M16: `LD (0xA123),A`. -/
theorem test_M16 :
    let t := ran { (withBus (code [0xEA, 0x23, 0xA1] (cart := (.mbc1RamBattery, 2, 3)))
      fun b => { b with romBankHi := 2, ramEnabled := true, bankingMode := true }) with
      regs := { zeroRegs with a := 0x77 } }
    t.pc = 0x0203 ∧ Memory.read t.bus.extRam 0x4123 = 0x77 ∧ t.mCycle = 4 := by decide

/-- M19: `LD A,(0xA000)`. -/
theorem test_M19 :
    let t := ran { (withBus (code [0xFA, 0x00, 0xA0] (cart := (.mbc1RamBattery, 2, 3)))
      fun b => { b with extRam := [(0x0000, 0x42)], disabledRead := .x00 }) with
      regs := { zeroRegs with a := 0x99 } }
    t.regs.a = 0x00 ∧ t.pc = 0x0203 ∧ t.mCycle = 4 := by decide

/-- M24: `LD (0xA010),A`. -/
theorem test_M24 :
    let t := ran { code [0xEA, 0x10, 0xA0] (cart := (.romRam, 0, 2)) with regs := { zeroRegs with a := 0x66 } }
    t.pc = 0x0203 ∧ Memory.read t.bus.extRam 0x0010 = 0x66 ∧ t.mCycle = 4 := by decide

/-- L4: `LD H,(HL)`. -/
theorem test_L4 :
    let t := ran { code [0x66] (mem := [(0xC123, 0xD0)]) with regs := { zeroRegs with h := 0xC1, l := 0x23 } }
    t.regs.h = 0xD0 ∧ t.pc = 0x0201 ∧ t.mCycle = 2 ∧ t.regs.f = 0x00 := by decide

/-- L6: `LD (HL),L`. -/
theorem test_L6 :
    let t := ran { code [0x75] with regs := { zeroRegs with h := 0xFF, l := 0x0F } }
    t.pc = 0x0201 ∧ t.bus.io 0xFF0F = 0x0F ∧ t.mCycle = 2 ∧ t.regs.f = 0x00 := by decide

/-- L8: `LD A,(BC)`. -/
theorem test_L8 :
    let t := ran { code [0x0A] (mem := [(0xFFFF, 0x1F)]) with regs := { zeroRegs with b := 0xFF, c := 0xFF } }
    t.regs.a = 0x1F ∧ t.pc = 0x0201 ∧ t.mCycle = 2 ∧ t.regs.f = 0x00 := by decide

/-- L11: `LD (DE),A`. -/
theorem test_L11 :
    let t := ran { code [0x12] (cart := (.mbc1, 2, 0)) with regs := { zeroRegs with a := 0x03, d := 0x20 } }
    t.pc = 0x0201 ∧ t.bus.romBankLo = 3 ∧ t.mCycle = 2 ∧ t.regs.f = 0x00 := by decide

/-- L18: `LD A,(HL+)`. -/
theorem test_L18 :
    let t := ran { code [0x2A] (mem := [(0xFFFF, 0x04)]) with regs := { zeroRegs with h := 0xFF, l := 0xFF } }
    t.regs.a = 0x04 ∧ t.regs.h = 0x00 ∧ t.regs.l = 0x00 ∧ t.pc = 0x0201 ∧ t.mCycle = 2 ∧ t.regs.f = 0x00 := by decide

/-- L19: `LD A,(HL-)`. -/
theorem test_L19 :
    let t := ran (code [0x3A] (rom := [(0x0000, 0xAA)]))
    t.regs.a = 0xAA ∧ t.regs.h = 0xFF ∧ t.regs.l = 0xFF ∧ t.pc = 0x0201 ∧ t.mCycle = 2 ∧ t.regs.f = 0x00 := by decide

/-- L21: `LD (HL-),A`. -/
theorem test_L21 :
    let t := ran { code [0x32] (cart := (.mbc1RamBattery, 2, 3)) with regs := { zeroRegs with a := 0x0A } }
    t.regs.h = 0xFF ∧ t.regs.l = 0xFF ∧ t.pc = 0x0201 ∧ t.bus.ramEnabled = true ∧ t.mCycle = 2 ∧ t.regs.f = 0x00 := by decide

/-- W3: `LD (0xC000),SP`. -/
theorem test_W3 :
    let t := ran { code [0x08, 0x00, 0xC0] with sp := 0xABCD }
    t.pc = 0x0203 ∧ t.bus.io 0xC000 = 0xCD ∧ t.bus.io 0xC001 = 0xAB ∧ t.mCycle = 5 ∧ t.regs.f = 0x00 := by decide

/-- W4: `LD (0xFFFF),SP`. -/
theorem test_W4 :
    let t := ran { code [0x08, 0xFF, 0xFF] (cart := (.mbc1RamBattery, 2, 3)) with sp := 0x0A12 }
    t.pc = 0x0203 ∧ t.bus.io 0xFFFF = 0x12 ∧ t.bus.ramEnabled = true ∧ t.mCycle = 5 ∧ t.regs.f = 0x00 := by decide

/-- W6: `LD HL,SP+0x80 (-128)`. -/
theorem test_W6 :
    let t := ran { code [0xF8, 0x80] with sp := 0x0000 }
    t.regs.h = 0xFF ∧ t.regs.l = 0x80 ∧ t.pc = 0x0202 ∧ t.mCycle = 3 ∧ t.regs.f = 0x00 := by decide

/-- W8: `LD HL,SP+0x01`. -/
theorem test_W8 :
    let t := ran { code [0xF8, 0x01] with sp := 0xFFFF }
    t.regs.f = 0x30 ∧ t.pc = 0x0202 ∧ t.mCycle = 3 := by decide

/-- W11: `PUSH DE`. -/
theorem test_W11 :
    let t := ran { code [0xD5] with regs := { zeroRegs with d := 0xBE, e := 0xEF }, sp := 0x0000 }
    t.sp = 0xFFFE ∧ t.pc = 0x0201 ∧ t.bus.io 0xFFFE = 0xEF ∧ t.bus.io 0xFFFF = 0xBE ∧ t.mCycle = 4 ∧ t.regs.f = 0x00 := by decide

/-- W12: `POP AF`. -/
theorem test_W12 :
    let t := ran { code [0xF1] (mem := [(0xFFF0, 0xAF), (0xFFF1, 0x77)]) with sp := 0xFFF0 }
    t.regs.a = 0x77 ∧ t.regs.f = 0xA0 ∧ t.sp = 0xFFF2 ∧ t.pc = 0x0201 ∧ t.mCycle = 3 := by decide

/-- W13: `POP HL`. -/
theorem test_W13 :
    let t := ran { code [0xE1] (mem := [(0xFFFF, 0x34)]) (rom := [(0x0000, 0x12)]) with sp := 0xFFFF }
    t.regs.h = 0x12 ∧ t.regs.l = 0x34 ∧ t.sp = 0x0001 ∧ t.pc = 0x0201 ∧ t.mCycle = 3 ∧ t.regs.f = 0x00 := by decide

/-- A3: `ADD A,B`. -/
theorem test_A3 :
    let t := ran { code [0x80] with regs := { zeroRegs with a := 0xFF, b := 0x01 } }
    t.regs.a = 0x00 ∧ t.regs.f = 0xB0 ∧ t.pc = 0x0201 ∧ t.mCycle = 1 := by decide

/-- A7: `ADC A,B`. -/
theorem test_A7 :
    let t := ran { code [0x88] with regs := { zeroRegs with a := 0x0F, f := 0x10 } }
    t.regs.a = 0x10 ∧ t.regs.f = 0x20 ∧ t.pc = 0x0201 ∧ t.mCycle = 1 := by decide

/-- A11: `ADC A,B`. -/
theorem test_A11 :
    let t := ran { code [0x88] with regs := { zeroRegs with a := 0xFF, f := 0x10, b := 0xFF } }
    t.regs.f = 0x30 ∧ t.pc = 0x0201 ∧ t.mCycle = 1 := by decide

/-- A13: `SUB B`. -/
theorem test_A13 :
    let t := ran { code [0x90] with regs := { zeroRegs with b := 0x01 } }
    t.regs.a = 0xFF ∧ t.regs.f = 0x70 ∧ t.pc = 0x0201 ∧ t.mCycle = 1 := by decide

/-- A17: `SBC A,B`. -/
theorem test_A17 :
    let t := ran { code [0x98] with regs := { zeroRegs with a := 0x10, f := 0x10, b := 0x0F } }
    t.regs.a = 0x00 ∧ t.regs.f = 0xE0 ∧ t.pc = 0x0201 ∧ t.mCycle = 1 := by decide

/-- A19: `SBC A,B`. -/
theorem test_A19 :
    let t := ran { code [0x98] with regs := { zeroRegs with a := 0xFF, f := 0x10, b := 0xFF } }
    t.regs.f = 0x70 ∧ t.pc = 0x0201 ∧ t.mCycle = 1 := by decide

/-- A21: `AND B`. -/
theorem test_A21 :
    let t := ran { code [0xA0] with regs := { zeroRegs with a := 0xF0, f := 0x10, b := 0x0F } }
    t.regs.a = 0x00 ∧ t.regs.f = 0xA0 ∧ t.pc = 0x0201 ∧ t.mCycle = 1 := by decide

/-- A23: `XOR B`. -/
theorem test_A23 :
    let t := ran { code [0xA8] with regs := { zeroRegs with a := 0xAA, f := 0x10, b := 0xAA } }
    t.regs.a = 0x00 ∧ t.regs.f = 0x80 ∧ t.pc = 0x0201 ∧ t.mCycle = 1 := by decide

/-- A26: `OR B`. -/
theorem test_A26 :
    let t := ran { code [0xB0] with regs := { zeroRegs with a := 0x0F, b := 0xF0 } }
    t.regs.a = 0xFF ∧ t.pc = 0x0201 ∧ t.mCycle = 1 ∧ t.regs.f = 0x00 := by decide

/-- A30: `CP B`. -/
theorem test_A30 :
    let t := ran { code [0xB8] with regs := { zeroRegs with a := 0x01, f := 0x10 } }
    t.regs.f = 0x40 ∧ t.pc = 0x0201 ∧ t.mCycle = 1 := by decide

/-- A38: `ADD A,(HL)`. -/
theorem test_A38 :
    let t := ran { code [0x86] (mem := [(0xC000, 0xFF)]) with regs := { zeroRegs with a := 0x01, h := 0xC0 } }
    t.regs.a = 0x00 ∧ t.regs.f = 0xB0 ∧ t.pc = 0x0201 ∧ t.mCycle = 2 := by decide

/-- A42: `SUB 0x80`. -/
theorem test_A42 :
    let t := ran (code [0xD6, 0x80])
    t.regs.a = 0x80 ∧ t.regs.f = 0x50 ∧ t.pc = 0x0202 ∧ t.mCycle = 2 := by decide

/-- A47: `INC B`. -/
theorem test_A47 :
    let t := ran { code [0x04] with regs := { zeroRegs with f := 0x10, b := 0xFF } }
    t.regs.f = 0xB0 ∧ t.regs.b = 0x00 ∧ t.pc = 0x0201 ∧ t.mCycle = 1 := by decide

/-- A49: `INC A`. -/
theorem test_A49 :
    let t := ran { code [0x3C] with regs := { zeroRegs with f := 0xF0 } }
    t.regs.a = 0x01 ∧ t.regs.f = 0x10 ∧ t.pc = 0x0201 ∧ t.mCycle = 1 := by decide

/-- A50: `INC (HL)`. -/
theorem test_A50 :
    let t := ran { code [0x34] (mem := [(0xC000, 0x0F)]) with regs := { zeroRegs with f := 0x40, h := 0xC0 } }
    t.regs.f = 0x20 ∧ t.pc = 0x0201 ∧ t.bus.io 0xC000 = 0x10 ∧ t.mCycle = 3 := by decide

/-- A51: `DEC D`. -/
theorem test_A51 :
    let t := ran (code [0x15])
    t.regs.f = 0x60 ∧ t.regs.d = 0xFF ∧ t.pc = 0x0201 ∧ t.mCycle = 1 := by decide

/-- A55: `DEC (HL)`. -/
theorem test_A55 :
    let t := ran { code [0x35] (mem := [(0xC000, 0x01)]) with regs := { zeroRegs with f := 0x10, h := 0xC0 } }
    t.regs.f = 0xD0 ∧ t.pc = 0x0201 ∧ t.bus.io 0xC000 = 0x00 ∧ t.mCycle = 3 := by decide

/-- A56: `CPL`. -/
theorem test_A56 :
    let t := ran { code [0x2F] with regs := { zeroRegs with f := 0x90 } }
    t.regs.a = 0xFF ∧ t.regs.f = 0xF0 ∧ t.pc = 0x0201 ∧ t.mCycle = 1 := by decide

/-- A58: `SCF`. -/
theorem test_A58 :
    let t := ran { code [0x37] with regs := { zeroRegs with f := 0xF0 } }
    t.regs.f = 0x90 ∧ t.pc = 0x0201 ∧ t.mCycle = 1 := by decide

/-- A61: `CCF`. -/
theorem test_A61 :
    let t := ran { code [0x3F] with regs := { zeroRegs with f := 0xF0 } }
    t.regs.f = 0x80 ∧ t.pc = 0x0201 ∧ t.mCycle = 1 := by decide

/-- X2: `ADD HL,DE`. -/
theorem test_X2 :
    let t := ran { code [0x19] with regs := { zeroRegs with f := 0x80, d := 0x80, h := 0x80 } }
    t.regs.f = 0x90 ∧ t.regs.h = 0x00 ∧ t.pc = 0x0201 ∧ t.mCycle = 2 := by decide

/-- X4: `ADD HL,SP`. -/
theorem test_X4 :
    let t := ran { code [0x39] with regs := { zeroRegs with f := 0x40, l := 0x01 }, sp := 0xFFFF }
    t.regs.f = 0x30 ∧ t.regs.l = 0x00 ∧ t.pc = 0x0201 ∧ t.mCycle = 2 := by decide

/-- X6: `INC BC`. -/
theorem test_X6 :
    let t := ran { code [0x03] with regs := { zeroRegs with f := 0xF0, b := 0xFF, c := 0xFF } }
    t.regs.b = 0x00 ∧ t.regs.c = 0x00 ∧ t.pc = 0x0201 ∧ t.mCycle = 2 ∧ t.regs.f = 0xF0 := by decide

/-- X9: `DEC SP`. -/
theorem test_X9 :
    let t := ran { code [0x3B] with sp := 0x0000 }
    t.sp = 0xFFFF ∧ t.pc = 0x0201 ∧ t.mCycle = 2 ∧ t.regs.f = 0x00 := by decide

/-- X11: `ADD SP,0x01`. -/
theorem test_X11 :
    let t := ran { code [0xE8, 0x01] with sp := 0xFFFF }
    t.regs.f = 0x30 ∧ t.sp = 0x0000 ∧ t.pc = 0x0202 ∧ t.mCycle = 4 := by decide

/-- X12: `ADD SP,0x80 (-128)`. -/
theorem test_X12 :
    let t := ran { code [0xE8, 0x80] with sp := 0x1234 }
    t.sp = 0x11B4 ∧ t.pc = 0x0202 ∧ t.mCycle = 4 ∧ t.regs.f = 0x00 := by decide

/-- O1: `RLCA`. -/
theorem test_O1 :
    let t := ran { code [0x07] with regs := { zeroRegs with f := 0x80 } }
    t.regs.f = 0x00 ∧ t.pc = 0x0201 ∧ t.mCycle = 1 := by decide

/-- O3: `RRCA`. -/
theorem test_O3 :
    let t := ran { code [0x0F] with regs := { zeroRegs with a := 0x01 } }
    t.regs.a = 0x80 ∧ t.regs.f = 0x10 ∧ t.pc = 0x0201 ∧ t.mCycle = 1 := by decide

/-- O4: `RLA`. -/
theorem test_O4 :
    let t := ran { code [0x17] with regs := { zeroRegs with a := 0x80 } }
    t.regs.a = 0x00 ∧ t.regs.f = 0x10 ∧ t.pc = 0x0201 ∧ t.mCycle = 1 := by decide

/-- O7: `RRA`. -/
theorem test_O7 :
    let t := ran { code [0x1F] with regs := { zeroRegs with f := 0x10 } }
    t.regs.a = 0x80 ∧ t.regs.f = 0x00 ∧ t.pc = 0x0201 ∧ t.mCycle = 1 := by decide

/-- O8: `RLC A`. -/
theorem test_O8 :
    let t := ran (code [0xCB, 0x07])
    t.regs.f = 0x80 ∧ t.pc = 0x0202 ∧ t.mCycle = 2 := by decide

/-- O10: `RRC C`. -/
theorem test_O10 :
    let t := ran { code [0xCB, 0x09] with regs := { zeroRegs with c := 0x80 } }
    t.regs.c = 0x40 ∧ t.pc = 0x0202 ∧ t.mCycle = 2 ∧ t.regs.f = 0x00 := by decide

/-- O12: `RL D`. -/
theorem test_O12 :
    let t := ran { code [0xCB, 0x12] with regs := { zeroRegs with f := 0x10 } }
    t.regs.f = 0x00 ∧ t.regs.d = 0x01 ∧ t.pc = 0x0202 ∧ t.mCycle = 2 := by decide

/-- O13: `RR E`. -/
theorem test_O13 :
    let t := ran { code [0xCB, 0x1B] with regs := { zeroRegs with e := 0x01 } }
    t.regs.f = 0x90 ∧ t.regs.e = 0x00 ∧ t.pc = 0x0202 ∧ t.mCycle = 2 := by decide

/-- O15: `SLA L`. -/
theorem test_O15 :
    let t := ran { code [0xCB, 0x25] with regs := { zeroRegs with l := 0x80 } }
    t.regs.f = 0x90 ∧ t.regs.l = 0x00 ∧ t.pc = 0x0202 ∧ t.mCycle = 2 := by decide

/-- O17: `SRA C`. -/
theorem test_O17 :
    let t := ran { code [0xCB, 0x29] with regs := { zeroRegs with c := 0x80 } }
    t.regs.c = 0xC0 ∧ t.pc = 0x0202 ∧ t.mCycle = 2 ∧ t.regs.f = 0x00 := by decide

/-- O20: `SWAP H`. -/
theorem test_O20 :
    let t := ran { code [0xCB, 0x34] with regs := { zeroRegs with f := 0x10, h := 0xA5 } }
    t.regs.f = 0x00 ∧ t.regs.h = 0x5A ∧ t.pc = 0x0202 ∧ t.mCycle = 2 := by decide

/-- O21: `SRL L`. -/
theorem test_O21 :
    let t := ran { code [0xCB, 0x3D] with regs := { zeroRegs with l := 0x01 } }
    t.regs.f = 0x90 ∧ t.regs.l = 0x00 ∧ t.pc = 0x0202 ∧ t.mCycle = 2 := by decide

/-- O24: `RR (HL)`. -/
theorem test_O24 :
    let t := ran { code [0xCB, 0x1E] (mem := []) with regs := { zeroRegs with f := 0x10, h := 0xC0 } }
    t.regs.f = 0x00 ∧ t.pc = 0x0202 ∧ t.bus.io 0xC000 = 0x80 ∧ t.mCycle = 4 := by decide

/-- B2: `BIT 0,A`. -/
theorem test_B2 :
    let t := ran { code [0xCB, 0x47] with regs := { zeroRegs with a := 0xFE, f := 0x50 } }
    t.regs.f = 0xB0 ∧ t.pc = 0x0202 ∧ t.mCycle = 2 := by decide

/-- B5: `BIT 6,(HL)`. -/
theorem test_B5 :
    let t := ran { code [0xCB, 0x76] (mem := [(0xC000, 0xBF)]) with regs := { zeroRegs with f := 0x10, h := 0xC0 } }
    t.regs.f = 0xB0 ∧ t.pc = 0x0202 ∧ t.mCycle = 3 := by decide

/-- B8: `RES 2,(HL)`. -/
theorem test_B8 :
    let t := ran { code [0xCB, 0x96] (mem := [(0xFF0F, 0x04)]) with regs := { zeroRegs with h := 0xFF, l := 0x0F } }
    t.pc = 0x0202 ∧ t.bus.io 0xFF0F = 0x00 ∧ t.mCycle = 4 ∧ t.regs.f = 0x00 := by decide

/-- B12: `SET 4,(HL)`. -/
theorem test_B12 :
    let t := ran { code [0xCB, 0xE6] (cart := (.mbc1, 2, 0)) with regs := { zeroRegs with h := 0x20 } }
    t.pc = 0x0202 ∧ t.bus.romBankLo = 16 ∧ t.mCycle = 4 ∧ t.regs.f = 0x00 := by decide

/-- J3: `JP NZ,0x3000`. -/
theorem test_J3 :
    let t := ran { code [0xC2, 0x00, 0x30] with regs := { zeroRegs with f := 0x80 } }
    t.pc = 0x0203 ∧ t.mCycle = 3 ∧ t.regs.f = 0x80 := by decide

/-- J6: `JP C,0x3000`. -/
theorem test_J6 :
    let t := ran { code [0xDA, 0x00, 0x30] with regs := { zeroRegs with f := 0x10 } }
    t.pc = 0x3000 ∧ t.mCycle = 4 ∧ t.regs.f = 0x10 := by decide

/-- J7: `JP HL`. -/
theorem test_J7 :
    let t := ran { code [0xE9] with regs := { zeroRegs with h := 0xFF, l := 0x80 } }
    t.pc = 0xFF80 ∧ t.mCycle = 1 ∧ t.regs.f = 0x00 := by decide

/-- J8: `JR 0x7F (+127)`. -/
theorem test_J8 :
    let t := ran (code [0x18, 0x7F] (pc := 0x0100))
    t.pc = 0x0181 ∧ t.mCycle = 3 ∧ t.regs.f = 0x00 := by decide

/-- J10: `JR 0x80 (-128)`. -/
theorem test_J10 :
    let t := ran (code [0x18, 0x80] (pc := 0x0010))
    t.pc = 0xFF92 ∧ t.mCycle = 3 ∧ t.regs.f = 0x00 := by decide

/-- J14: `JR NC,0xFC (-4)`. -/
theorem test_J14 :
    let t := ran (code [0x30, 0xFC])
    t.pc = 0x01FE ∧ t.mCycle = 3 ∧ t.regs.f = 0x00 := by decide

/-- J15: `JR C,0xFC (-4)`. -/
theorem test_J15 :
    let t := ran (code [0x38, 0xFC])
    t.pc = 0x0202 ∧ t.mCycle = 2 ∧ t.regs.f = 0x00 := by decide

/-- J21: `CALL NC,0x3000`. -/
theorem test_J21 :
    let t := ran { code [0xD4, 0x00, 0x30] with regs := { zeroRegs with f := 0x10 } }
    t.pc = 0x0203 ∧ t.mCycle = 3 ∧ t.regs.f = 0x10 := by decide

/-- J22: `CALL 0x3000`. -/
theorem test_J22 :
    let t := ran { (withBus (code [0xCD, 0x00, 0x30] (cart := (.mbc1RamBattery, 2, 3)))
      fun b => { b with ramEnabled := true }) with
      sp := 0x0001 }
    t.sp = 0xFFFF ∧ t.pc = 0x3000 ∧ t.bus.io 0xFFFF = 0x03 ∧ t.bus.ramEnabled = false ∧ t.mCycle = 6 ∧ t.regs.f = 0x00 := by decide

/-- J24: `RET NZ`. -/
theorem test_J24 :
    let t := ran { code [0xC0] (pc := 0x3000) (mem := [(0xFFFC, 0x03), (0xFFFD, 0x02)]) with sp := 0xFFFC }
    t.sp = 0xFFFE ∧ t.pc = 0x0203 ∧ t.mCycle = 5 ∧ t.regs.f = 0x00 := by decide

/-- J25: `RET NZ`. -/
theorem test_J25 :
    let t := ran { code [0xC0] (pc := 0x3000) (mem := [(0xFFFC, 0x03), (0xFFFD, 0x02)]) with
      regs := { zeroRegs with f := 0x80 }, sp := 0xFFFC }
    t.pc = 0x3001 ∧ t.mCycle = 2 ∧ t.regs.f = 0x80 := by decide

/-- J28: `RET`. -/
theorem test_J28 :
    let t := ran { code [0xC9] (pc := 0x3000) (mem := []) (rom := [(0x0000, 0x02)]) with sp := 0xFFFF }
    t.sp = 0x0001 ∧ t.pc = 0x0200 ∧ t.mCycle = 4 ∧ t.regs.f = 0x00 := by decide

/-- J29: `RETI`. -/
theorem test_J29 :
    let t := ran { code [0xD9] (pc := 0x0040) (mem := [(0xFFFC, 0x03), (0xFFFD, 0x02)]) with sp := 0xFFFC }
    t.sp = 0xFFFE ∧ t.pc = 0x0203 ∧ t.ime = true ∧ t.mCycle = 4 ∧ t.regs.f = 0x00 := by decide

/-- J32: `RST 0x18`. -/
theorem test_J32 :
    let t := ran { code [0xDF] (pc := 0x3FFF) (mem := [(0xCFFE, 0xEE)]) with sp := 0xD000 }
    t.sp = 0xCFFE ∧ t.pc = 0x0018 ∧ t.bus.io 0xCFFE = 0x00 ∧ t.bus.io 0xCFFF = 0x40 ∧ t.mCycle = 4 ∧ t.regs.f = 0x00 := by decide

/-- Y2: `HALT`. -/
theorem test_Y2 :
    let t := ran (code [0x76] (mem := [(0xFFFF, 0x04)]))
    t.pc = 0x0201 ∧ t.halt = true ∧ t.mCycle = 1 := by decide

/-- Y3: `HALT`. -/
theorem test_Y3 :
    let t := ran (code [0x76] (mem := [(0xFF0F, 0x04), (0xFFFF, 0x04)]))
    t.pc = 0x0201 ∧ t.mCycle = 1 := by decide

/-- Y6: `(halted step)`. -/
theorem test_Y6 :
    let t := ran { code [] (pc := 0x0201) (mem := [(0xFF0F, 0xE0), (0xFFFF, 0xE0)]) with halt := true }
    t.pc = 0x0201 ∧ t.mCycle = 1 := by decide

/-- Y7: `STOP`. -/
theorem test_Y7 :
    let t := ran (code [0x10, 0x00])
    t.pc = 0x0202 ∧ t.mCycle = 2 := by decide

/-- Y8: `STOP with second byte 0x01`. -/
theorem test_Y8 :
    let t := ran (code [0x10, 0x01])
    t.pc = 0x0202 ∧ t.fault = some (.illegalStop 0x01 0x0200) ∧ t.mCycle = 2 := by decide

/-- Y11: `EI`. -/
theorem test_Y11 :
    let t := ran (code [0xFB] (mem := [(0xFF0F, 0x1F), (0xFFFF, 0x1F)]))
    t.sp = 0xFFFC ∧ t.pc = 0x0040 ∧ t.bus.io 0xFF0F = 0x1E ∧ t.bus.io 0xFFFC = 0x01 ∧ t.bus.io 0xFFFD = 0x02 ∧ t.mCycle = 4 := by decide

/-- Y12: `NOP`. -/
theorem test_Y12 :
    let t := ran { code [0x00] (mem := [(0xFF0F, 0x1B), (0xFFFF, 0x14)]) with ime := true }
    t.sp = 0xFFFC ∧ t.pc = 0x0060 ∧ t.ime = false ∧ t.bus.io 0xFF0F = 0x0B ∧ t.bus.io 0xFFFC = 0x01 ∧ t.bus.io 0xFFFD = 0x02 ∧
      t.mCycle = 4 := by decide

/-- Y15, from the end of its NOP. -/
theorem test_Y15 :
    let t := ticked { (withBus (code [] (pc := 0x0201) (mem := [(0xFF0F, 0x01), (0xFFFF, 0x01)]) (cart := (.mbc1RamBattery, 2, 3)))
      fun b => { b with ramEnabled := true }) with
      sp := 0x0001, ime := true }
    t.sp = 0xFFFF ∧ t.pc = 0x0040 ∧ t.ime = false ∧ t.bus.io 0xFF0F = 0x00 ∧ t.bus.ramEnabled = false ∧ t.mCycle = 4 := by decide

/-- Y16: `RETI`. -/
theorem test_Y16 :
    let t := ran { code [0xD9] (mem := [(0xFF0F, 0x04), (0xFFFC, 0x03), (0xFFFD, 0x02), (0xFFFF, 0x05)]) with sp := 0xFFFC }
    t.pc = 0x0050 ∧ t.bus.io 0xFF0F = 0x00 ∧ t.mCycle = 7 := by decide

/-- Y17: `LDH (0x0F),A`. -/
theorem test_Y17 :
    let t := ran { code [0xE0, 0x0F] (mem := [(0xFFFF, 0x01)]) with regs := { zeroRegs with a := 0x01 }, ime := true }
    t.sp = 0xFFFC ∧ t.pc = 0x0040 ∧ t.ime = false ∧ t.bus.io 0xFFFC = 0x02 ∧ t.bus.io 0xFFFD = 0x02 ∧ t.mCycle = 6 := by decide

/-- T2, from the end of its NOP. -/
theorem test_T2 :
    let t := ticked { code [] (pc := 0x0201) (mem := [(0xFF05, 0xFF), (0xFF06, 0x80), (0xFF07, 0x05)]) with sysCounter := 12 }
    t.pc = 0x0201 ∧ t.bus.io 0xFF05 = 0x80 ∧ t.bus.io 0xFF0F = 0x04 ∧ t.sysCounter = 16 ∧ t.mCycle = 1 := by decide

/-- T3: `NOP`. -/
theorem test_T3 :
    let t := ran { code [0x00] (mem := [(0xFF05, 0xFF), (0xFF06, 0x80), (0xFF07, 0x05), (0xFFFF, 0x04)]) with
      ime := true, sysCounter := 12 }
    t.sp = 0xFFFC ∧ t.pc = 0x0050 ∧ t.ime = false ∧ t.bus.io 0xFF05 = 0x80 ∧ t.bus.io 0xFFFC = 0x01 ∧ t.bus.io 0xFFFD = 0x02 ∧
      t.sysCounter = 28 ∧ t.mCycle = 4 := by decide

/-- T7, from the end of its NOP. -/
theorem test_T7 :
    let t := ticked { code [] (pc := 0x0201) (mem := [(0xFF07, 0x03)]) with sysCounter := 252 }
    t.pc = 0x0201 ∧ t.bus.io 0xFF04 = 0x01 ∧ t.sysCounter = 256 ∧ t.mCycle = 1 := by decide

/-- T8, from the end of its NOP. -/
theorem test_T8 :
    let t := ticked { code [] (pc := 0x0201) (mem := [(0xFF04, 0xFF), (0xFF07, 0x04)]) with sysCounter := 65532 }
    t.pc = 0x0201 ∧ t.bus.io 0xFF04 = 0x00 ∧ t.bus.io 0xFF05 = 0x01 ∧ t.sysCounter = 0 ∧ t.mCycle = 1 := by decide

/-- T10: `LDH (0x04),A`. -/
theorem test_T10 :
    let t := ran { code [0xE0, 0x04] (mem := [(0xFF04, 0x37)]) with sysCounter := 100 }
    t.pc = 0x0202 ∧ t.bus.io 0xFF04 = 0x00 ∧ t.sysCounter = 112 ∧ t.mCycle = 3 := by decide

/-- T12, from the end of its NOP. -/
theorem test_T12 :
    let t := ticked { code [] (pc := 0x0201) (mem := [(0xFF01, 0x66), (0xFF02, 0x83)]) with sysCounter := 4, serialPos := 254 }
    t.pc = 0x0201 ∧ t.bus.io 0xFF02 = 0x03 ∧ t.bus.io 0xFF0F = 0x08 ∧ Memory.read t.serialBuffer 254 = 0x66 ∧ t.serialPos = 0 ∧
      t.sysCounter = 8 ∧ t.mCycle = 1 := by decide

/-- T13, from the end of its NOP. -/
theorem test_T13 :
    let t := ticked { code [] (pc := 0x0201) (mem := [(0xFF01, 0x55), (0xFF02, 0x03)]) with sysCounter := 4 }
    t.pc = 0x0201 ∧ t.sysCounter = 8 ∧ t.mCycle = 1 := by decide

/-- T15, from the end of its NOP. -/
theorem test_T15 :
    let t := ticked { code [] (pc := 0x0201) (mem := [(0xFF05, 0xFE), (0xFF06, 0x80), (0xFF07, 0x05), (0xFF0F, 0x01), (0xFFFF, 0x05)]) with
      ime := true, sysCounter := 12, dispatchCost := .five }
    t.sp = 0xFFFC ∧ t.pc = 0x0040 ∧ t.ime = false ∧ t.bus.io 0xFF05 = 0x80 ∧ t.bus.io 0xFF0F = 0x04 ∧ t.bus.io 0xFFFC = 0x01 ∧
      t.bus.io 0xFFFD = 0x02 ∧ t.sysCounter = 36 ∧ t.mCycle = 6 := by decide

/-! ## Witnesses: states that meet the obligations' hypotheses -/

/-- An MBC1 machine with 128 KiB of ROM and 32 KiB of RAM, enabled. -/
def wit : State :=
  { withBus (code [0x80] (mem := [(0xC000, 0x12), (0xFF07, 0x05), (0xFFFF, 0x1F)]) (cart := (.mbc1RamBattery, 2, 3)))
      (fun b => { b with ramEnabled := true, romBankLo := 3 }) with regs := { zeroRegs with a := 0x45, b := 0x38, h := 0xC0 } }

/-- A machine without a mapper and without RAM. -/
def plain : State := code [0x00]

theorem wit_bus_sound : wit.bus.Sound :=
  { cart := { romWf := by decide, romWithin := by decide, cartType := by decide, romCode := by decide, ramCode := by decide }
    memWf := by decide, memWithin := by decide, extRamWf := by decide, extRamWithin := by decide, bankLo := by decide }

theorem wit_sound : wit.Sound :=
  { flagNibble := by decide, bus := wit_bus_sound, ringWf := by decide, ringWithin := by decide }

theorem wit_step_keeps_sound : wit.Sound ∧ ∃ t, step wit = .next t := ⟨wit_sound, _, rfl⟩

theorem wit_step_keeps_cartridge : ∃ t, step plain = .next t := ⟨_, rfl⟩

theorem wit_decode_encode_agree : (Instr.illegalStop 0xFF).wellFormed = true ∧ (Instr.ldBcNn 0xFFFF).wellFormed = true := by decide

theorem wit_decoded_bytes : decode [0x01, 0x34, 0x12, 0xFF] = .ok (.ldBcNn 0x1234) := by decide

theorem wit_illegal_opcodes :
    (0xFD : Byte) ∈ ([0xD3, 0xDB, 0xDD, 0xE3, 0xE4, 0xEB, 0xEC, 0xED, 0xF4, 0xFC, 0xFD] : List Byte) ∧
      (0x10 : Byte) ∉ ([0xD3, 0xDB, 0xDD, 0xE3, 0xE4, 0xEB, 0xEC, 0xED, 0xF4, 0xFC, 0xFD] : List Byte) ∧ plain.fault = none ∧
      ∃ t, exec (decodeAt 0x10 0x01 0x00) (plain.advance (instrLength 0x10)) = .next t := ⟨by decide, by decide, by decide, _, rfl⟩

theorem wit_pop_undoes_push :
    (Instr.pushAf, Instr.popAf, Reg16.af) ∈
        [(Instr.pushBc, Instr.popBc, Reg16.bc), (.pushDe, .popDe, .de), (.pushHl, .popHl, .hl), (.pushAf, .popAf, .af)] ∧
      wit.Sound ∧ PlainAddress (wit.sp - 1) ∧ PlainAddress (wit.sp - 2) ∧
      ∃ t u, exec .pushAf wit = .next t ∧ exec .popAf t = .next u :=
  ⟨by decide, wit_sound, by decide, by decide, _, _, rfl, rfl⟩

theorem wit_pop_undoes_push_others :
    (∃ t u, exec .pushBc wit = .next t ∧ exec .popBc t = .next u) ∧ (∃ t u, exec .pushDe wit = .next t ∧ exec .popDe t = .next u) ∧
      ∃ t u, exec .pushHl wit = .next t ∧ exec .popHl t = .next u := ⟨⟨_, _, rfl, rfl⟩, ⟨_, _, rfl, rfl⟩, ⟨_, _, rfl, rfl⟩⟩

theorem wit_daa_is_decimal :
    wit.regs.a = BitVec.ofNat 8 (16 * (45 / 10) + 45 % 10) ∧ wit.regs.b = BitVec.ofNat 8 (16 * (38 / 10) + 38 % 10) ∧
      (∃ t u, exec .addAB wit = .next t ∧ exec .daa t = .next u) ∧ ∃ t u, exec .subB wit = .next t ∧ exec .daa t = .next u :=
  ⟨by decide, by decide, ⟨_, _, rfl, rfl⟩, ⟨_, _, rfl, rfl⟩⟩

theorem wit_daa_boundary :
    let s := { plain with regs := { zeroRegs with a := 0x99, b := 0x99 } }
    s.regs.a = BitVec.ofNat 8 (16 * (99 / 10) + 99 % 10) ∧ s.regs.b = BitVec.ofNat 8 (16 * (99 / 10) + 99 % 10) ∧
      ∃ t u, exec .addAB s = .next t ∧ exec .daa t = .next u ∧ u.regs.a = 0x98 ∧ u.regs.flagC = true :=
  ⟨by decide, by decide, _, _, rfl, rfl, by decide, by decide⟩

/-- Each condition of R116 holds of one flag byte and fails of another. -/
theorem wit_conditions :
    let on : Regs := { zeroRegs with f := 0x90 }
    on.f.getLsbD 7 = true ∧ on.f.getLsbD 4 = true ∧ zeroRegs.f.getLsbD 7 = false ∧ zeroRegs.f.getLsbD 4 = false := by decide

theorem wit_memory_frame_no_store : storesOf .ldBC wit = [] ∧ ∃ t, exec .ldBC wit = .next t := ⟨by decide, _, rfl⟩

theorem wit_memory_frame_store :
    storesOf .ldAtHlA wit = [0xC000] ∧ ¬reaches 0xC000 0xC001 ∧ ¬reaches 0xC000 0xBFFF ∧ ∃ t, exec .ldAtHlA wit = .next t :=
  ⟨by decide, by unfold reaches; decide, by unfold reaches; decide, _, rfl⟩

theorem wit_control_frame :
    writesIme .nop = false ∧ Instr.nop ≠ .halt ∧ writesPc .nop = false ∧ ∃ t, exec .nop wit = .next t :=
  ⟨by decide, by decide, by decide, _, rfl⟩

theorem wit_flag_readers :
    readsFlags .addAB wit = false ∧ (∃ t, exec .addAB wit = .next t) ∧ (∃ t, exec .addAB (wit.withF 0xF0) = .next t) ∧
      readsFlags .prefixCb plain = false ∧ readsFlags .prefixCb (code [0x10]) = true := by
  refine ⟨by decide, ⟨_, rfl⟩, ⟨_, rfl⟩, by decide, by decide⟩

theorem wit_bus_read_ranges :
    wit.bus.cart.mapper = .mbc1 ∧ plain.bus.cart.mapper = .plain ∧ wit.bus.ramEnabled = true ∧ wit.bus.cart.ramSize ≠ 0 ∧
      plain.bus.cart.ramSize = 0 ∧ plain.bus.read 0xA000 = 0xFF ∧ plain.bus.read 0xBFFF = 0xFF ∧ wit.bus.read 0xBFFF = 0x00 ∧
      wit.bus.read 0x3FFF = 0x00 ∧ wit.bus.read 0x4000 = 0x00 ∧ wit.bus.read 0xC000 = 0x12 ∧ wit.bus.read 0xFFFF = 0x1F := by decide

theorem wit_plain_store :
    wit.bus.Sound ∧ PlainAddress 0x8000 ∧ PlainAddress 0x9FFF ∧ PlainAddress 0xC000 ∧ PlainAddress 0xFF45 ∧ PlainAddress 0xFF47 ∧
      PlainAddress 0xFFFF := ⟨wit_bus_sound, by decide, by decide, by decide, by decide, by decide, by decide⟩

/-- The second clause's two premises: RAM disabled, and RAM absent. -/
theorem wit_ext_ram_store :
    wit.bus.Sound ∧ (wit.bus.cart.mapper = .plain ∨ wit.bus.ramEnabled = true) ∧ wit.bus.cart.ramSize ≠ 0 ∧
      ({ wit.bus with ramEnabled := false } : Bus).Sound ∧ plain.bus.cart.ramSize = 0 ∧ plain.bus.write 0xA000 0x55 = plain.bus :=
  ⟨wit_bus_sound, by decide, by decide, { wit_bus_sound with }, by decide, by decide⟩

theorem wit_mbc1_control :
    (wit.bus.write 0x0000 0x0A).ramEnabled = true ∧ (wit.bus.write 0x1FFF 0x0B).ramEnabled = false ∧
      (wit.bus.write 0x2000 0xE0).romBankLo = 1 ∧ (wit.bus.write 0x3FFF 0x1F).romBankLo = 31 ∧
      (wit.bus.write 0x4000 0x07).romBankHi = 3 ∧ (wit.bus.write 0x5FFF 0x04).romBankHi = 0 ∧
      (wit.bus.write 0x6000 0x80).bankingMode = true ∧ (wit.bus.write 0x7FFF 0x00).bankingMode = false ∧
      plain.bus.write 0x7FFF 0x01 = plain.bus := by decide

theorem wit_dma : wit.bus.Sound ∧ ¬((0xFE00 ≤ (0xFEA0 : Word).toNat) ∧ (0xFEA0 : Word).toNat < 0xFEA0) ∧ (0xFEA0 : Word) ≠ 0xFF46 :=
  ⟨wit_bus_sound, by decide, by decide⟩

theorem wit_bus_write_frame : ¬reaches 0x2000 0x3FFF ∧ ¬reaches 0x2000 0x8000 ∧ ¬reaches 0xFF46 0xFEA0 ∧ ¬reaches 0xA000 0xA001 := by
  unfold reaches; decide

/-- The pending set of `wit` is empty, and with a request in IF it is not. -/
theorem wit_halt_wake :
    wit.bus.io 0xFFFF &&& wit.bus.io 0xFF0F &&& 0x1F = 0 ∧ wit.ime = false ∧
      (let b := wit.bus.setIo 0xFF0F 0x10; b.io 0xFFFF &&& b.io 0xFF0F &&& 0x1F ≠ 0) := by decide

/-- For each source a state in which it is the lowest pending one. -/
theorem wit_dispatch :
    ∀ i : Fin 5,
      let s := { withBus wit (fun b => b.setIo 0xFF0F (0xFF <<< i.val)) with ime := true }
      let p := s.bus.io 0xFFFF &&& s.bus.io 0xFF0F &&& 0x1F
      s.ime = true ∧ p.getLsbD i.val = true ∧ ∀ j : Nat, j < i.val → p.getLsbD j = false := by decide

theorem wit_ticks_without_ime : wit.ime = false ∧ (0xFF03 : Word) ∉ ([0xFF02, 0xFF04, 0xFF05, 0xFF0F] : List Word) := by decide

/-- A transfer that is due, and one that is not. -/
theorem wit_serial_tick :
    let s := withBus wit (fun b => b.setIo 0xFF02 0x83)
    (s.bus.io 0xFF02).toNat ≥ 128 ∧ s.sysCounter.toNat % 8 = 0 ∧ Memory.wf s.serialBuffer = true ∧
      ¬((wit.bus.io 0xFF02).toNat ≥ 128) := by decide

theorem wit_serial_tick_sound : (wit.bus.setIo 0xFF02 0x83).Sound :=
  { wit_bus_sound with memWf := by decide, memWithin := by decide }

/-- TIMA due and not at its end, due at its end, not due. -/
theorem wit_timer_tick :
    wit.bus.Sound ∧ (wit.bus.io 0xFF07).toNat / 4 % 2 = 1 ∧ wit.sysCounter.toNat % 16 = 0 ∧ wit.bus.io 0xFF05 ≠ 0xFF ∧
      (wit.bus.setIo 0xFF05 0xFF).io 0xFF05 = 0xFF ∧ ¬((plain.bus.io 0xFF07).toNat / 4 % 2 = 1) :=
  ⟨wit_bus_sound, by decide, by decide, by decide, by decide, by decide⟩

theorem wit_div_counts : wit.bus.Sound ∧ wit.ime = false := ⟨wit_bus_sound, by decide⟩

theorem wit_fault_is_permanent : ({ plain with fault := some (.illegalOpcode 0xD3 0x0200) } : State).fault = some (.illegalOpcode 0xD3 0x0200) := by
  decide

theorem wit_halted_step : ({ plain with halt := true } : State).fault = none ∧ ({ plain with halt := true } : State).halt = true := by
  decide

theorem wit_step_runs_decoded :
    wit.fault = none ∧ wit.halt = false ∧
      decode [wit.bus.read wit.pc, wit.bus.read (wit.pc + 1), wit.bus.read (wit.pc + 2)] = .ok .addAB := by decide

/-- A step's T-cycles without and with a dispatch. -/
theorem wit_engine_runs :
    (({ wit with mCycle := 1 } : State).tcycles 4).2 = false ∧
      (({ withBus wit (fun b => b.setIo 0xFF0F 0x04) with ime := true, mCycle := 1 } : State).tcycles 4).2 = true := by decide

theorem wit_decode_fatal_stops :
    let s := code [0xED]
    s.fault = none ∧ s.halt = false ∧
      s.bus.read s.pc ∈ ([0xD3, 0xDB, 0xDD, 0xE3, 0xE4, 0xEB, 0xEC, 0xED, 0xF4, 0xFC, 0xFD] : List Byte) := by decide

theorem wit_power_on_checks :
    let im := image 0x10000 0x03 0x01 0x05
    let rom := Memory.ofCells 0 im.length im.cells
    im.readable = true ∧ 0x8000 ≤ im.length ∧ (Memory.read rom 0x148).toNat ≤ 8 ∧
      32768 * 2 ^ (Memory.read rom 0x148).toNat = im.length ∧ (Memory.read rom 0x149).toNat ≤ 5 ∧
      Memory.read rom 0x147 ∈ ([0x00, 0x01, 0x02, 0x03, 0x08, 0x09] : List Byte) ∧ im.allocatable = true ∧
      ∃ s, powerOn im {} = .ok s :=
  ⟨by decide, by decide, by decide, by decide, by decide, by decide, by decide, _, rfl⟩

end Sys2Proof.Tests
end

/-! PROOFS. What power-on constructs (O57), PUSH and POP (O12), calls and restarts (O32). -/

namespace Sys2Proof.Machine

/-! ## The cartridge of an image (R8, R34, R373) -/

/-- R373 (d): the type of a header byte is the one whose code the byte is. -/
theorem cartTypeOf_eq_some_iff (v : Byte) (t : CartType) : cartTypeOf v = some t ↔ v = t.code := by
  constructor
  · intro h
    unfold cartTypeOf at h
    repeat' split at h
    all_goals cases h
    all_goals assumption
  · rintro rfl
    cases t <;> rfl

/-- The bytes that are the code of a cartridge type (R8). -/
theorem exists_cartType_code_iff (v : Byte) :
    (∃ t : CartType, v = t.code) ↔ v ∈ ([0x00, 0x01, 0x02, 0x03, 0x08, 0x09] : List Byte) := by
  constructor
  · rintro ⟨t, rfl⟩
    cases t <;> decide
  · simp only [List.mem_cons, List.not_mem_nil, or_false]
    rintro (rfl | rfl | rfl | rfl | rfl | rfl)
    exacts [⟨.romOnly, rfl⟩, ⟨.mbc1, rfl⟩, ⟨.mbc1Ram, rfl⟩, ⟨.mbc1RamBattery, rfl⟩, ⟨.romRam, rfl⟩, ⟨.romRamBattery, rfl⟩]

theorem romSizeOf_eq (n : Nat) : romSizeOf n = 32768 * 2 ^ n := Nat.shiftLeft_eq _ _

/-- `c` is the cartridge of the image `im`, and `im` passes the five checks of R373: (a) the first two fields, (b) the size and the ROM
code, (c) the RAM code, (d) the type, (e) the last field. -/
structure Cartridge.IsOf (c : Cartridge) (im : RomImage) : Prop where
  readable : im.readable = true
  longEnough : 0x8000 ≤ im.length
  rom : c.rom = Memory.ofCells 0 im.length im.cells
  romSize : c.romSize = im.length
  cartType : Memory.read c.rom 0x147 = c.cartType.code
  romCode : (Memory.read c.rom 0x148).toNat = c.romCode.val
  ramCode : (Memory.read c.rom 0x149).toNat = c.ramCode.val
  allocatable : im.allocatable = true

/-- What `loadCartridge` answers: the cartridge of the image, when the checks of R373 hold. -/
theorem loadCartridge_eq_ok_iff (im : RomImage) (c : Cartridge) : loadCartridge im = .ok c ↔ c.IsOf im := by
  constructor
  · intro h
    simp only [loadCartridge] at h
    split at h
    · cases h
    next hImage =>
    simp only [Bool.or_eq_true, Bool.not_eq_true', decide_eq_true_eq, not_or, Bool.not_eq_false, Nat.not_lt] at hImage
    obtain ⟨hReadable, hLength⟩ := hImage
    split at h
    case isFalse => cases h
    split at h
    · cases h
    next hSize =>
    split at h
    case isFalse => cases h
    split at h
    · cases h
    next t hType =>
    split at h
    case isFalse => cases h
    next hAlloc =>
    cases h
    exact ⟨hReadable, hLength, rfl, not_not.mp hSize, (cartTypeOf_eq_some_iff _ t).mp hType, rfl, rfl, hAlloc⟩
  · rintro ⟨hReadable, hLength, hRom, hSize, hType, hRomCode, hRamCode, hAlloc⟩
    obtain ⟨rom, t, n, k⟩ := c
    subst hRom
    simp only [Cartridge.romSize] at hSize hType hRomCode hRamCode
    simp [loadCartridge, hReadable, hLength, hRomCode, hRamCode, hSize, (cartTypeOf_eq_some_iff _ t).mpr hType, hAlloc]

/-- An image gives a cartridge exactly when its header passes the checks of R373. -/
theorem exists_isOf_iff (im : RomImage) :
    let rom := Memory.ofCells 0 im.length im.cells
    (∃ c : Cartridge, c.IsOf im) ↔
      im.readable = true ∧ 0x8000 ≤ im.length ∧ (Memory.read rom 0x148).toNat ≤ 8 ∧
        32768 * 2 ^ (Memory.read rom 0x148).toNat = im.length ∧ (Memory.read rom 0x149).toNat ≤ 5 ∧
        Memory.read rom 0x147 ∈ ([0x00, 0x01, 0x02, 0x03, 0x08, 0x09] : List Byte) ∧ im.allocatable = true := by
  intro rom
  constructor
  · rintro ⟨c, hReadable, hLength, hRom, hSize, hType, hRomCode, hRamCode, hAlloc⟩
    rw [hRom] at hType hRomCode hRamCode
    refine ⟨hReadable, hLength, ?_, ?_, ?_, (exists_cartType_code_iff _).mp ⟨_, hType⟩, hAlloc⟩
    · rw [hRomCode]; omega
    · rw [hRomCode, ← romSizeOf_eq]; exact hSize
    · rw [hRamCode]; omega
  · rintro ⟨hReadable, hLength, hRomCode, hSize, hRamCode, hType, hAlloc⟩
    obtain ⟨t, hType⟩ := (exists_cartType_code_iff _).mpr hType
    rw [← romSizeOf_eq] at hSize
    exact ⟨⟨rom, t, ⟨_, Nat.lt_succ_of_le hRomCode⟩, ⟨_, Nat.lt_succ_of_le hRamCode⟩⟩,
      hReadable, hLength, rfl, hSize, hType, rfl, rfl, hAlloc⟩

theorem Cartridge.IsOf.sound {c : Cartridge} {im : RomImage} (h : c.IsOf im) : c.Sound := by
  obtain ⟨hWf, hWithin⟩ := Memory.ofCells_wf 0 im.length im.cells
  rw [← h.rom] at hWf hWithin
  exact ⟨hWf, h.romSize ▸ hWithin, h.cartType, h.romCode, h.ramCode⟩

/-! ## Power-on (R53, R370) -/

/-- The reset state of a sound cartridge and of contents in canonical form within their arrays is sound. -/
theorem State.ofParams_sound {c : Cartridge} {p : ResetParams} (hc : c.Sound)
    (hMem : Memory.wf p.memInit = true ∧ Memory.within 0x8000 0x10000 p.memInit = true)
    (hRam : Memory.wf p.extRamInit = true ∧ Memory.within 0 c.ramSize p.extRamInit = true) : (State.ofParams c p).Sound where
  flagNibble := and_nibbles _
  bus := ⟨hc, hMem.1, hMem.2, hRam.1, hRam.2, (by decide : (1 : BitVec 5) ≠ 0)⟩
  ringWf := rfl
  ringWithin := rfl

/-- The parameters that `powerOn` hands to the reset table: the contents in canonical form, cut to their arrays (log 12). -/
def ResetParams.fitted (p : ResetParams) (c : Cartridge) : ResetParams :=
  { p with memInit := Memory.ofCells 0x8000 0x10000 p.memInit, extRamInit := Memory.ofCells 0 c.ramSize p.extRamInit }

theorem powerOn_eq_ok_iff (im : RomImage) (p : ResetParams) (s : State) :
    powerOn im p = .ok s ↔ ∃ c : Cartridge, c.IsOf im ∧ State.ofParams c (p.fitted c) = s := by
  simp only [← loadCartridge_eq_ok_iff, powerOn, ResetParams.fitted]
  cases loadCartridge im <;> simp

/-- Settles O57: the state constructed is the reset state of the image's cartridge. -/
theorem powerOnChecks : Obligations.PowerOnChecks := by
  unfold Obligations.PowerOnChecks
  intro im p
  simp only [powerOn_eq_ok_iff, ← exists_isOf_iff]
  constructor
  · rintro ⟨c, hc⟩
    exact ⟨_, c, hc, rfl⟩
  · rintro s ⟨c, hc, rfl⟩
    exact ⟨⟨c, hc⟩, State.ofParams_sound hc.sound (Memory.ofCells_wf _ _ _) (Memory.ofCells_wf _ _ _)⟩

/-! ## The stack pairs (R12, R194, R195) -/

theorem exec_decodeAt_push (p : StackPair) (n b : Byte) (s : State) :
    exec (decodeAt (3#2 ++ p.code ++ 0#1 ++ 5#3) n b) s = .next (pushPair p.reg16 s) := by
  cases p <;> rfl

theorem exec_decodeAt_pop (p : StackPair) (n b : Byte) (s : State) :
    exec (decodeAt (3#2 ++ p.code ++ 0#1 ++ 1#3) n b) s = .next (popPair p.reg16 s) := by
  cases p <;> rfl

/-- The bus after `v` is pushed: the high byte at SP − 1, then the low byte at SP − 2 (R12, 92 D24). -/
def State.pushBus (s : State) (v : Word) : Bus := (s.bus.write (s.sp - 1) (hiByte v)).write (s.sp - 2) (loByte v)

theorem State.push16_eq (s : State) (v : Word) :
    s.push16 v = { s with bus := s.pushBus v, sp := s.sp - 2, mCycle := s.mCycle + 2 } := rfl

/-- Fetches change no 16-bit operand. -/
theorem State.get16_advance (s : State) (n : Nat) (r : Reg16) : (s.advance n).get16 r = s.get16 r := by
  cases r <;> rfl

theorem pushPair_advance (r : Reg16) (s : State) (n : Nat) :
    pushPair r (s.advance n) =
      { s with bus := s.pushBus (s.get16 r), sp := s.sp - 2, pc := s.pc + BitVec.ofNat 16 n, mCycle := s.mCycle + n + 3 } := by
  rw [pushPair, State.push16_eq, State.get16_advance]
  rfl

theorem popPair_advance (p : StackPair) (s : State) (n : Nat) :
    popPair p.reg16 (s.advance n) =
      { s.set16 p.reg16 (s.bus.read (s.sp + 1) ++ s.bus.read s.sp) with
        sp := s.sp + 2, pc := s.pc + BitVec.ofNat 16 n, mCycle := s.mCycle + n + 2 } := by
  cases p <;> rfl

theorem State.set16_stackPair_f (s : State) (p : StackPair) (v : Word) :
    (s.set16 p.reg16 v).regs.f = if p = .af then loByte v &&& 0xF0 else s.regs.f := by
  cases p <;> rfl

/-- Settles O12, by the effect of each of the two operations after one fetch. -/
theorem pushAndPop : Obligations.PushAndPop := by
  unfold Obligations.PushAndPop
  intro p n b s
  refine ⟨?_, ?_, s.set16_stackPair_f p _⟩
  · rw [exec_decodeAt_push, pushPair_advance]; rfl
  · rw [exec_decodeAt_pop, popPair_advance]; rfl

/-! ## Calls and restarts (R301, R302, R306) -/

theorem exec_decodeAt_call (n b : Byte) (s : State) : exec (decodeAt 0xCD n b) s = .next (call none (b ++ n) s) := rfl

theorem exec_decodeAt_callCond (cc : Cond) (n b : Byte) (s : State) :
    exec (decodeAt (3#2 ++ 0#1 ++ cc.code ++ 4#3) n b) s = .next (call (some cc) (b ++ n) s) := by
  cases cc <;> rfl

theorem exec_decodeAt_rst (y : BitVec 3) (n b : Byte) (s : State) :
    exec (decodeAt (3#2 ++ y ++ 7#3) n b) s = .next (restart (BitVec.ofNat 16 (8 * y.toNat)) s) := by
  obtain ⟨k⟩ := y
  fin_cases k <;> rfl

theorem restart_advance (a : Word) (s : State) (n : Nat) :
    restart a (s.advance n) =
      { s with bus := s.pushBus (s.pc + BitVec.ofNat 16 n), sp := s.sp - 2, pc := a, mCycle := s.mCycle + n + 3 } := by
  rw [restart, State.push16_eq]
  rfl

/-- A call that is taken is a restart at its target. -/
theorem call_eq (cc : Option Cond) (a : Word) (s : State) : call cc a s = if taken cc s then restart a s else s := rfl

/-- Settles O32, by the effect of the push after the fetches. -/
theorem callsAndRestarts : Obligations.CallsAndRestarts := by
  unfold Obligations.CallsAndRestarts
  intro cc y n b s
  refine ⟨?_, ?_, ?_⟩
  · rw [exec_decodeAt_call, call_eq, restart_advance]; rfl
  · rw [exec_decodeAt_callCond, call_eq, restart_advance]; rfl
  · rw [exec_decodeAt_rst, restart_advance]; rfl

end Sys2Proof.Machine

/-! PROOFS. What every step keeps (O59, O60) and what every instruction keeps (O36), the reads of the bus (O38), the serial and timer
ticks (O47, O48), the reset state (O56, O58), and the instructions that F does not reach (O37). -/

namespace Sys2Proof.Machine

/-! ## What a step can do (R320, R321) -/

/-- The end of a step: a faulted body ends it, any other is counted and followed by the tick engine. -/
theorem State.afterBody_cases (s : State) :
    (s.fault ≠ none ∧ s.afterBody = s) ∨
      (s.fault = none ∧ s.afterBody = ({ s with exeCounter := s.exeCounter + 1 } : State).runEngine) := by
  unfold State.afterBody
  cases s.fault with
  | some d => exact .inl ⟨nofun, rfl⟩
  | none => exact .inr ⟨rfl, rfl⟩

/-- A step of a stopped machine, of a halted one, and of a running one. -/
theorem step_cases {s t : State} (e : step s = .next t) :
    (s.fault ≠ none ∧ t = s) ∨
      (s.fault = none ∧ s.halt = true ∧ t = s.beginStep.haltedStep) ∨
      (s.fault = none ∧ s.halt = false ∧
        ∃ u, exec s.beginStep.fetchInstr s.beginStep.afterFetch = .next u ∧ t = u.afterBody) := by
  unfold step at e
  cases hf : s.fault with
  | some d =>
    simp only [hf] at e
    cases e
    exact .inl ⟨nofun, rfl⟩
  | none =>
    simp only [hf] at e
    cases hh : s.halt with
    | true =>
      simp only [hh, if_true] at e
      cases e
      exact .inr (.inl ⟨rfl, rfl, rfl⟩)
    | false =>
      obtain ⟨u, hu⟩ := exec_next s.beginStep.fetchInstr s.beginStep.afterFetch
      simp only [hh, hu, finishStep, Bool.false_eq_true, if_false] at e
      cases e
      exact .inr (.inr ⟨rfl, rfl, u, hu, rfl⟩)

/-! ## Soundness of a step -/

theorem State.beginStep_sound {s : State} (h : s.Sound) : s.beginStep.Sound := h.of h.flagNibble h.bus rfl

theorem State.haltedStep_sound {s : State} (h : s.Sound) : s.haltedStep.Sound := State.runEngine_sound (State.internal_sound h)

theorem State.afterBody_sound {s : State} (h : s.Sound) : s.afterBody.Sound := by
  rcases s.afterBody_cases with ⟨_, e⟩ | ⟨_, e⟩ <;> rw [e]
  · exact h
  · exact State.runEngine_sound (h.of h.flagNibble h.bus rfl)

/-- Settles O59, by the three cases of a step: the fetches, the body and the tick engine each keep a sound state sound. -/
theorem stepKeepsSound : Obligations.StepKeepsSound := by
  unfold Obligations.StepKeepsSound
  intro s t h e
  have hBegin := State.beginStep_sound h
  rcases step_cases e with ⟨_, rfl⟩ | ⟨_, _, rfl⟩ | ⟨_, _, u, hu, rfl⟩
  · exact h
  · exact State.haltedStep_sound hBegin
  · exact State.afterBody_sound (exec_sound (State.advance_sound _ hBegin) hu)

/-! ## What every instruction keeps (R26 to R32, R85) -/

theorem KeepsControl.refl (s : State) : KeepsControl s s := ⟨rfl, rfl, rfl, rfl, rfl, rfl, rfl, rfl, rfl⟩

theorem State.raise_keeps (d : DecodeFatal) (s : State) : KeepsControl s (s.raise d) := { KeepsControl.refl s with }

theorem State.returnFromInterrupt_keeps (s : State) : KeepsControl { s with ime := true } s.returnFromInterrupt :=
  { s.returnBody_keeps with ime := rfl }

/-- What the body of `i` keeps: the control state but for the IME and HALT of the instructions that write them, and PC but for the
control transfers and the one fetch of PREFIX CB. -/
structure ExecFrame (i : Instr) (s t : State) : Prop where
  control : KeepsControl { s with ime := t.ime, halt := t.halt } t
  ime : writesIme i = false → t.ime = s.ime
  halt : i ≠ .halt → t.halt = s.halt
  pc : writesPc i = false → t.pc = if i = .prefixCb then s.pc + 1 else s.pc

theorem KeepsControl.execFrame {i : Instr} {s t : State} (k : KeepsControl s t)
    (hpc : writesPc i = false → t.pc = if i = .prefixCb then s.pc + 1 else s.pc) : ExecFrame i s t where
  control := { k with ime := rfl, halt := rfl }
  ime _ := k.ime
  halt _ := k.halt
  pc := hpc

theorem prefixPage_execFrame (s : State) : ExecFrame .prefixCb s (prefixPage s) :=
  have h : Straight { s with pc := s.pc + 1 } (prefixPage s) :=
    Straight.trans (t := s.fetch8.2) (.ofBus rfl rfl rfl rfl rfl rfl rfl rfl rfl rfl) (cbPage_straight _ _)
  KeepsControl.execFrame { h.toKeepsControl with } fun _ => h.pc

/-- Every body keeps what `ExecFrame` says: straight code and branches keep the control state whole, and the rest are taken one by
one. -/
theorem exec_frame {i : Instr} {s t : State} (e : exec i s = .next t) : ExecFrame i s t := by
  by_cases hPrefix : i = .prefixCb
  · subst hPrefix
    cases e
    exact prefixPage_execFrame s
  rcases exec_keeps e with h | ⟨hBranch, h, _⟩ | hSystem | ⟨b, rfl⟩
  · exact h.toKeepsControl.execFrame fun _ => by rw [if_neg hPrefix, h.pc]
  · exact h.execFrame fun hNot => by rw [hBranch] at hNot; cases hNot
  · simp only [List.mem_cons, List.not_mem_nil, or_false] at hSystem
    rcases hSystem with rfl | rfl | rfl | rfl | rfl | hIllegal
    · cases e
      exact ⟨.refl _, fun _ => rfl, fun h => absurd rfl h, fun _ => rfl⟩
    · cases e
      exact ⟨.refl _, nofun, fun _ => rfl, fun _ => rfl⟩
    · cases e
      exact ⟨.refl _, nofun, fun _ => rfl, fun _ => rfl⟩
    · cases e
      exact ⟨s.returnFromInterrupt_keeps, nofun, fun _ => rfl, nofun⟩
    · exact absurd rfl hPrefix
    · rcases hIllegal with rfl | rfl | rfl | rfl | rfl | rfl | rfl | rfl | rfl | rfl | rfl
      all_goals cases e; exact (State.raise_keeps _ s).execFrame fun _ => rfl
  · cases e
    exact (State.raise_keeps _ s).execFrame fun _ => rfl

/-- Settles O36: the frame of every body, field by field. -/
theorem execControlFrame : Obligations.ExecControlFrame := by
  unfold Obligations.ExecControlFrame
  intro i s t e
  obtain ⟨k, hIme, hHalt, hPc⟩ := exec_frame e
  exact ⟨hIme, hHalt, hPc, k.sysCounter, k.exeCounter, k.serialBuffer, k.serialPos, k.dispatchCost, k.cart, k.disabledRead⟩

/-! ## The cartridge and the parameters (R8, R34, R85) -/

/-- `t` has the cartridge of `s` and the parameters the running machine consults. -/
structure KeepsParams (s t : State) : Prop where
  cart : t.bus.cart = s.bus.cart
  disabledRead : t.bus.disabledRead = s.bus.disabledRead
  dispatchCost : t.dispatchCost = s.dispatchCost

theorem KeepsParams.trans {s t u : State} (h : KeepsParams s t) (g : KeepsParams t u) : KeepsParams s u :=
  ⟨g.cart.trans h.cart, g.disabledRead.trans h.disabledRead, g.dispatchCost.trans h.dispatchCost⟩

theorem State.runEngine_keepsParams (s : State) : KeepsParams s s.runEngine :=
  have ⟨hCart, hRead, hCost, _⟩ := s.runEngine_params
  ⟨hCart, hRead, hCost⟩

theorem State.afterBody_keepsParams (s : State) : KeepsParams s s.afterBody := by
  rcases s.afterBody_cases with ⟨_, e⟩ | ⟨_, e⟩ <;> rw [e]
  · exact ⟨rfl, rfl, rfl⟩
  · exact KeepsParams.trans (t := { s with exeCounter := s.exeCounter + 1 }) ⟨rfl, rfl, rfl⟩ (State.runEngine_keepsParams _)

theorem exec_keepsParams {i : Instr} {s t : State} (e : exec i s = .next t) : KeepsParams s t :=
  have k := (exec_frame e).control
  ⟨k.cart, k.disabledRead, k.dispatchCost⟩

theorem step_keepsParams {s t : State} (e : step s = .next t) : KeepsParams s t := by
  rcases step_cases e with ⟨_, rfl⟩ | ⟨_, _, rfl⟩ | ⟨_, _, u, hu, rfl⟩
  · exact ⟨rfl, rfl, rfl⟩
  · exact KeepsParams.trans (t := s.beginStep.internal) ⟨rfl, rfl, rfl⟩ (State.runEngine_keepsParams _)
  · exact KeepsParams.trans (t := s.beginStep.afterFetch) ⟨rfl, rfl, rfl⟩
      ((exec_keepsParams hu).trans (State.afterBody_keepsParams u))

/-- Settles O60, by the three cases of a step. -/
theorem stepKeepsCartridge : Obligations.StepKeepsCartridge := by
  unfold Obligations.StepKeepsCartridge
  intro s t e
  obtain ⟨hCart, hRead, hCost⟩ := step_keepsParams e
  exact ⟨hCart, hRead, hCost⟩

/-! ## The read decoder (R60 to R65) -/

theorem Bus.bankedRomIndex_plain (b : Bus) (n : Nat) (h : b.cart.mapper = .plain) : b.bankedRomIndex n = n := by
  simp only [Bus.bankedRomIndex, h]

theorem Bus.extRamRead_present (b : Bus) (n : Nat) (h : b.extRamPresent = true) :
    b.extRamRead n = Memory.read b.extRam (b.extRamIndex n) := if_pos h

theorem Bus.extRamRead_absent (b : Bus) (n : Nat) (h : ¬b.extRamPresent = true) : b.extRamRead n = b.disabledRead.byte := if_neg h

/-- Settles O38, region by region, the bank offsets as sums. -/
theorem busReadDecoder : Obligations.BusReadDecoder := by
  unfold Obligations.BusReadDecoder
  intro b x n rom enabled ramBank
  refine ⟨b.read_fixed x, fun h1 h2 hm => ?_, fun h1 h2 hm => ?_, b.read_mem x, fun h1 h2 hOn hSize => ?_, fun h1 h2 hOff => ?_⟩
  · rw [b.read_banked x h1 h2, b.bankedRomIndex_mbc1 hm h2]; rfl
  · rw [b.read_banked x h1 h2, b.bankedRomIndex_plain _ hm]; rfl
  · rw [b.read_extRam x h1 h2, b.extRamRead_present _ (b.extRamPresent_iff.mpr ⟨hOn, hSize⟩), b.extRamIndex_eq h2,
      b.ramBankOffset_eq]
  · rw [b.read_extRam x h1 h2, b.extRamRead_absent]
    rw [b.extRamPresent_iff]
    rintro ⟨hOn, hSize⟩
    exact hOff.elim (· hOn) hSize

/-! ## Fields of the I/O registers (R41, R45) -/

/-- A two-bit field at the foot of a byte chooses by the byte mod 4. -/
theorem pick4_low (v : Byte) (v0 v1 v2 v3 : Nat) :
    pick4 (v.extractLsb' 0 2) v0 v1 v2 v3 =
      if v.toNat % 4 = 0 then v0 else if v.toNat % 4 = 1 then v1 else if v.toNat % 4 = 2 then v2 else v3 := by
  have h : (v.extractLsb' 0 2).toNat = v.toNat % 4 := by simp
  unfold pick4
  rw [h]
  split
  · next h0 => rw [if_pos h0]
  · next h1 => simp only [h1, if_true]; rfl
  · next h2 => simp only [h2, if_true]; rfl
  · next h0 h1 h2 => rw [if_neg h0, if_neg h1, if_neg h2]

theorem byte_bit2 (v : Byte) : v.getLsbD 2 = true ↔ v.toNat / 4 % 2 = 1 := by revert v; decide

theorem byte_bit7 (v : Byte) : v.getLsbD 7 = true ↔ v.toNat ≥ 128 := by revert v; decide

/-! ## The serial tick (R333) -/

theorem State.serialDue_iff (s : State) :
    s.serialDue = true ↔ (s.bus.io ioSC).toNat ≥ 128 ∧ s.sysCounter.toNat % serialPeriod (s.bus.io ioSC) = 0 := by
  simp only [State.serialDue, Bool.and_eq_true, byte_bit7, beq_iff_eq]

theorem State.serialTick_idle {s : State} (h : ¬s.serialDue = true) : s.serialTick = s := if_neg h

theorem State.serialTick_due {s : State} (h : s.serialDue = true) :
    s.serialTick =
      { s with
        serialBuffer := Memory.write s.serialBuffer s.serialPos.val (s.bus.io ioSB)
        serialPos := ⟨(s.serialPos.val + 1) % 255, Nat.mod_lt _ (by decide)⟩
        bus := (s.bus.setIo ioSC (s.bus.io ioSC &&& 0x7F)).request 0x08 } := if_pos h

theorem Bus.io_request_same {b : Bus} (m : Byte) (h : Memory.wf b.mem = true) : (b.request m).io ioIF = b.io ioIF ||| m :=
  b.io_setIo_same ioIF _ h

theorem Bus.io_request_other (b : Bus) (m : Byte) {k : Nat} (h : k ≠ ioIF) : (b.request m).io k = b.io k := b.io_setIo_other _ h

theorem Bus.setIo_wf {b : Bus} (i : Nat) (v : Byte) (h : Memory.wf b.mem = true) : Memory.wf (b.setIo i v).mem = true :=
  Memory.write_wf i v h

/-- Settles O47, by the two cases of the tick. -/
theorem serialTick : Obligations.SerialTick := by
  unfold Obligations.SerialTick
  intro s sc period
  have hDue : s.serialDue = true ↔ sc.toNat ≥ 128 ∧ s.sysCounter.toNat % period = 0 := by
    rw [s.serialDue_iff, serialPeriod, pick4_low]
  refine ⟨fun h => State.serialTick_idle (mt hDue.mp h), fun h1 h2 hSound hRing => ?_⟩
  have e := State.serialTick_due (hDue.mpr ⟨h1, h2⟩)
  refine ⟨fun k => ?_, ?_, ?_, ?_, fun k => s.serialTick_io_other⟩ <;> rw [e]
  · exact Memory.read_write _ _ _ hRing
  · rw [Bus.io_request_other _ _ (by decide)]
    exact Bus.io_setIo_same _ _ _ hSound.memWf
  · rw [Bus.io_request_same _ (Bus.setIo_wf _ _ hSound.memWf), Bus.io_setIo_other _ _ (by decide)]

/-! ## The timer tick (R330, R331) -/

theorem State.timaDue_iff (s : State) :
    s.timaDue = true ↔ (s.bus.io ioTAC).toNat / 4 % 2 = 1 ∧ s.sysCounter.toNat % timaPeriod (s.bus.io ioTAC) = 0 := by
  simp only [State.timaDue, Bool.and_eq_true, byte_bit2, beq_iff_eq]

theorem State.timaTick_idle {s : State} (h : ¬s.timaDue = true) : s.timaTick = s := if_neg h

theorem State.timaTick_count {s : State} (h : s.timaDue = true) (hEnd : s.bus.io ioTIMA ≠ 0xFF) :
    s.timaTick = { s with bus := s.bus.setIo ioTIMA (s.bus.io ioTIMA + 1) } := (if_pos h).trans (if_neg hEnd)

theorem State.timaTick_reload {s : State} (h : s.timaDue = true) (hEnd : s.bus.io ioTIMA = 0xFF) :
    s.timaTick = { s with bus := (s.bus.setIo ioTIMA (s.bus.io ioTMA)).request 0x04 } := (if_pos h).trans (if_pos hEnd)

/-- DIV's tick leaves the timer's question as it was. -/
theorem State.divTick_timaDue (s : State) : s.divTick.timaDue = s.timaDue := by
  unfold State.timaDue
  rw [s.divTick_io_other (by decide), s.divTick_sysCounter]

theorem State.divTick_wf {s : State} (h : Memory.wf s.bus.mem = true) : Memory.wf s.divTick.bus.mem = true := by
  unfold State.divTick
  split
  · exact Bus.setIo_wf _ _ h
  · exact h

/-- R330: DIV after its tick. -/
theorem State.divTick_div {s : State} (h : Memory.wf s.bus.mem = true) :
    s.divTick.bus.io ioDIV = if s.sysCounter.toNat % 256 = 0 then s.bus.io ioDIV + 1 else s.bus.io ioDIV := by
  simp only [State.divTick, beq_iff_eq]
  split
  · exact Bus.io_setIo_same _ _ _ h
  · rfl

/-- Settles O48: DIV's tick and then TIMA's, in its three cases. -/
theorem timerTick : Obligations.TimerTick := by
  unfold Obligations.TimerTick
  intro s hSound tac tima period due t
  have hWf := State.divTick_wf hSound.memWf
  have hTima : s.divTick.bus.io ioTIMA = tima := s.divTick_io_other (by decide)
  have hTma : s.divTick.bus.io ioTMA = s.bus.io ioTMA := s.divTick_io_other (by decide)
  have hIf : s.divTick.bus.io ioIF = s.bus.io ioIF := s.divTick_io_other (by decide)
  have hDue : s.divTick.timaDue = true ↔ due := by
    rw [s.divTick_timaDue, s.timaDue_iff, timaPeriod, pick4_low]
  refine ⟨?_, fun h => ?_, fun h hEnd => ?_, fun h hEnd => ?_, fun k h1 h2 h3 => ?_⟩
  · exact (s.divTick.timaTick_io_other (by decide) (by decide)).trans (State.divTick_div hSound.memWf)
  · have e : t = s.divTick := State.timaTick_idle (mt hDue.mp h)
    rw [e]
    exact ⟨hTima, hIf⟩
  · have e : t = _ := State.timaTick_count (hDue.mpr h) (hTima ▸ hEnd)
    rw [e, hTima]
    exact ⟨Bus.io_setIo_same _ _ _ hWf, (Bus.io_setIo_other _ _ (by decide)).trans hIf⟩
  · have e : t = _ := State.timaTick_reload (hDue.mpr h) (hTima.trans hEnd)
    rw [e, hTma]
    refine ⟨?_, ?_⟩
    · rw [Bus.io_request_other _ _ (by decide)]
      exact Bus.io_setIo_same _ _ _ hWf
    · rw [Bus.io_request_same _ (Bus.setIo_wf _ _ hWf), Bus.io_setIo_other _ _ (by decide), hIf]
  · exact (s.divTick.timaTick_io_other h2 h3).trans (s.divTick_io_other h1)

/-! ## The reset state (R53, R370) -/

/-- Settles O56: R53's table, read off `State.ofParams`. -/
theorem resetValues : Obligations.ResetValues := by
  unfold Obligations.ResetValues
  intro c p
  exact ⟨rfl, rfl, rfl, rfl, rfl, rfl, rfl, fun _ => rfl, rfl, rfl, rfl, rfl, rfl, rfl, rfl, rfl, rfl, rfl, rfl⟩

/-- The header bytes of the blank image are those of the blank cartridge. -/
theorem Cartridge.blank_sound : Cartridge.blank.Sound := ⟨rfl, rfl, rfl, rfl, rfl⟩

/-- Settles O58: the reset state of the blank cartridge and of empty contents. -/
theorem resetSound : Obligations.ResetSound := by
  unfold Obligations.ResetSound
  exact State.ofParams_sound Cartridge.blank_sound ⟨rfl, rfl⟩ ⟨rfl, rfl⟩

/-! ## What F does not reach (R24) -/

/-- `t` is `s` but for F. -/
def SameButF (s t : State) : Prop := t.withF s.regs.f = s

/-- Two choices by one field are related when the alternatives it can take are. -/
theorem pick4_rel {α : Type} {R : α → α → Prop} (n : BitVec 2) {v0 v1 v2 v3 w0 w1 w2 w3 : α} (h0 : n = 0 → R v0 w0)
    (h1 : R v1 w1) (h2 : R v2 w2) (h3 : R v3 w3) : R (pick4 n v0 v1 v2 v3) (pick4 n w0 w1 w2 w3) := by
  unfold pick4
  split
  · next h => exact h0 (BitVec.eq_of_toNat_eq h)
  · exact h1
  · exact h2
  · exact h3

/-! ### The accesses of an operand commute with a change of F -/

theorem State.setReg_withF (s : State) (f : Byte) (r : Reg8) (v : Byte) : (s.withF f).setReg r v = (s.setReg r v).withF f := by
  cases r <;> rfl

theorem load8_withF (o : Operand8) (s : State) (f : Byte) : load8 o (s.withF f) = ((load8 o s).1, (load8 o s).2.withF f) := by
  cases o
  case reg r => cases r <;> rfl
  all_goals rfl

theorem loadSource8_withF (o : Source8) (s : State) (f : Byte) :
    loadSource8 o (s.withF f) = ((loadSource8 o s).1, (loadSource8 o s).2.withF f) := by
  cases o with
  | operand o => exact load8_withF o s f
  | imm n => rfl

theorem store8_withF (o : Operand8) (v : Byte) (s : State) (f : Byte) : store8 o v (s.withF f) = (store8 o v s).withF f := by
  cases o
  case reg r => exact s.setReg_withF f r v
  all_goals rfl

theorem State.get16_withF {r : Reg16} (h : r ≠ .af) (s : State) (f : Byte) : (s.withF f).get16 r = s.get16 r := by
  cases r
  case af => exact absurd rfl h
  all_goals rfl

theorem State.set16_sameButF (r : Reg16) (v : Word) (s : State) (f : Byte) :
    SameButF (s.set16 r v) ((s.withF f).set16 r v) := by
  cases r <;> rfl

/-- A write of flags leaves F as the one difference, whatever it keeps of F. -/
theorem State.setFlags_sameButF (z n h c : Option Bool) (s : State) (f : Byte) :
    SameButF (s.setFlags z n h c) ((s.withF f).setFlags z n h c) := rfl

/-! ### The families -/

/-- Of the accumulator operations only ADC and SBC use the carry. -/
theorem aluEval_carry {op : AluOp} (h : op ≠ .adc ∧ op ≠ .sbc) (a v : Byte) (c c' : Bool) : aluEval op a v c = aluEval op a v c' := by
  cases op
  case adc => exact absurd rfl h.1
  case sbc => exact absurd rfl h.2
  all_goals rfl

/-- Of the rotates and shifts only RL and RR use the carry. -/
theorem shiftEval_carry {op : ShiftOp} (h : op ≠ .rl ∧ op ≠ .rr) (v : Byte) (c c' : Bool) : shiftEval op v c = shiftEval op v c' := by
  cases op
  case rl => exact absurd rfl h.1
  case rr => exact absurd rfl h.2
  all_goals rfl

section
variable (s : State) (f : Byte)

theorem ld8_sameButF (dst : Operand8) (src : Source8) : SameButF (ld8 dst src s) (ld8 dst src (s.withF f)) := by
  simp only [ld8, loadSource8_withF, store8_withF]
  rfl

theorem accumulate_sameButF {op : AluOp} (h : op ≠ .adc ∧ op ≠ .sbc) (src : Source8) :
    SameButF (accumulate op src s) (accumulate op src (s.withF f)) := by
  simp only [accumulate, loadSource8_withF, State.setReg_withF,
    aluEval_carry h _ _ (((loadSource8 src s).2.withF f).regs.flagC) (loadSource8 src s).2.regs.flagC]
  exact State.setFlags_sameButF _ _ _ _ _ f

theorem inc8_sameButF (o : Operand8) : SameButF (inc8 o s) (inc8 o (s.withF f)) := by
  simp only [inc8, load8_withF, store8_withF]
  rfl

theorem dec8_sameButF (o : Operand8) : SameButF (dec8 o s) (dec8 o (s.withF f)) := by
  simp only [dec8, load8_withF, store8_withF]
  rfl

theorem rotateA_sameButF {op : ShiftOp} (h : op ≠ .rl ∧ op ≠ .rr) : SameButF (rotateA op s) (rotateA op (s.withF f)) := by
  simp only [rotateA, State.setReg_withF, shiftEval_carry h _ (s.withF f).regs.flagC s.regs.flagC]
  exact State.setFlags_sameButF _ _ _ _ _ f

theorem shift8_sameButF {op : ShiftOp} (h : op ≠ .rl ∧ op ≠ .rr) (o : Operand8) :
    SameButF (shift8 op o s) (shift8 op o (s.withF f)) := by
  simp only [shift8, load8_withF, store8_withF,
    shiftEval_carry h _ (((load8 o s).2.withF f).regs.flagC) (load8 o s).2.regs.flagC]
  exact State.setFlags_sameButF _ _ _ _ _ f

theorem testBit_sameButF (b : Fin 8) (o : Operand8) : SameButF (testBit b o s) (testBit b o (s.withF f)) := by
  simp only [testBit, load8_withF]
  rfl

theorem clearBit_sameButF (b : Fin 8) (o : Operand8) : SameButF (clearBit b o s) (clearBit b o (s.withF f)) := by
  simp only [clearBit, load8_withF, store8_withF]
  rfl

theorem setBit_sameButF (b : Fin 8) (o : Operand8) : SameButF (setBit b o s) (setBit b o (s.withF f)) := by
  simp only [setBit, load8_withF, store8_withF]
  rfl

theorem addToHl_sameButF {r : Reg16} (h : r ≠ .af) : SameButF (addToHl r s) (addToHl r (s.withF f)) := by
  simp only [addToHl, s.get16_withF h f]
  rfl

theorem inc16_sameButF {r : Reg16} (h : r ≠ .af) : SameButF (inc16 r s) (inc16 r (s.withF f)) := by
  simp only [inc16, s.get16_withF h f]
  exact State.set16_sameButF r _ s.internal f

theorem dec16_sameButF {r : Reg16} (h : r ≠ .af) : SameButF (dec16 r s) (dec16 r (s.withF f)) := by
  simp only [dec16, s.get16_withF h f]
  exact State.set16_sameButF r _ s.internal f

theorem pushPair_sameButF {r : Reg16} (h : r ≠ .af) : SameButF (pushPair r s) (pushPair r (s.withF f)) := by
  simp only [pushPair, s.get16_withF h f]
  rfl

theorem popPair_sameButF (r : Reg16) : SameButF (popPair r s) (popPair r (s.withF f)) :=
  State.set16_sameButF r _ s.pop16.2 f

theorem ld16_sameButF {src : Source16} (dst : Dest16) (h : src ≠ .reg .af) : SameButF (ld16 dst src s) (ld16 dst src (s.withF f)) := by
  have hSrc : load16 src (s.withF f) = load16 src s := by
    cases src with
    | reg r => exact s.get16_withF (fun e => h (e ▸ rfl)) f
    | imm nn => rfl
  rw [ld16, ld16, hSrc]
  cases dst with
  | reg r => exact State.set16_sameButF r _ s f
  | atNn a => rfl

/-- The operation that a field of group 0 selects is the one of that code (R118). -/
theorem shiftOfField_eq_iff (b : BitVec 3) (op : ShiftOp) : shiftOfField b = op ↔ b = op.code := by
  cases op <;> revert b <;> decide

theorem cbPage_sameButF {cb : Byte} (h : cbReadsFlags cb = false) : SameButF (cbPage cb s) (cbPage cb (s.withF f)) := by
  refine pick4_rel _ (fun hx => shift8_sameButF s f ?_ _) (testBit_sameButF s f _ _) (clearBit_sameButF s f _ _) (setBit_sameButF s f _ _)
  simpa [cbReadsFlags, hx, shiftOfField_eq_iff] using h

theorem prefixPage_sameButF (h : cbReadsFlags (s.bus.read s.pc) = false) :
    SameButF (prefixPage s) (prefixPage (s.withF f)) := cbPage_sameButF s.fetch8.2 f h

end

/-! ### Every instruction -/

/-- Outside the flag readers the bodies from two states that differ in F answer states that differ in F alone. -/
theorem exec_sameButF {i : Instr} {s : State} (f : Byte) (h : readsFlags i s = false) :
    ∃ t t', exec i s = .next t ∧ exec i (s.withF f) = .next t' ∧ SameButF t t' := by
  cases i
  case prefixCb => exact ⟨_, _, rfl, rfl, prefixPage_sameButF s f h⟩
  all_goals cases h
  all_goals refine ⟨_, _, rfl, rfl, ?_⟩
  case nop | stop | halt | di | ei | cpl | scf | ldSpHl | ldHlSpE8 | addSpE8 => rfl
  case jpNn | jpHl | jrE8 | callNn | ret | reti | rst00 | rst08 | rst10 | rst18 | rst20 | rst28 | rst30 | rst38 => rfl
  case illegalStop | illegalD3 | illegalDB | illegalDD | illegalE3 | illegalE4 | illegalEB | illegalEC | illegalED | illegalF4 |
    illegalFC | illegalFD => rfl
  case ldBcNn | ldDeNn | ldHlNn | ldSpNn | ldAtNnSp => exact ld16_sameButF s f _ nofun
  all_goals with_reducible first
    | exact testBit_sameButF s f _ _
    | exact clearBit_sameButF s f _ _
    | exact setBit_sameButF s f _ _
    | exact ld8_sameButF s f _ _
    | exact inc8_sameButF s f _
    | exact dec8_sameButF s f _
    | exact popPair_sameButF s f _
    | refine shift8_sameButF s f ?_ _
    | refine accumulate_sameButF s f ?_ _
    | refine rotateA_sameButF s f ?_
    | refine addToHl_sameButF s f ?_
    | refine inc16_sameButF s f ?_
    | refine dec16_sameButF s f ?_
    | refine pushPair_sameButF s f ?_
  all_goals decide

/-- Settles O37: the two runs differ in F alone. -/
theorem flagReaders : Obligations.FlagReaders := by
  unfold Obligations.FlagReaders
  intro i s t t' f h e e'
  obtain ⟨u, u', hu, hu', hSame⟩ := exec_sameButF f h
  cases hu.symm.trans e
  cases hu'.symm.trans e'
  exact hSame

end Sys2Proof.Machine

/-! PROOFS. Memory: what a bus write changes and leaves (O39 to O43), and which bytes the body of an instruction can change (O35). -/

namespace Sys2Proof.Machine

/-! ## Plain memory and external RAM (R61 to R63, R69, R73) -/

/-- Settles O43: the frame of a bus write. -/
theorem busWriteFrame : Obligations.BusWriteFrame := by
  unfold Obligations.BusWriteFrame
  intro b a x v h
  exact b.read_write_frame a x v h

/-- Settles O39, by the read after a plain store to an array in canonical form. -/
theorem plainStore : Obligations.PlainStore := by
  unfold Obligations.PlainStore
  intro b a x v hSound ha
  exact b.read_write_plain a x v hSound.memWf ha

theorem Bus.extRamPresent_false_iff (b : Bus) :
    b.extRamPresent = false ↔ (b.cart.mapper = .mbc1 ∧ b.ramEnabled = false) ∨ b.cart.ramSize = 0 := by
  unfold Bus.extRamPresent Bus.extRamEnabled
  cases b.cart.mapper with
  | plain => simp
  | mbc1 => cases b.ramEnabled <;> simp

theorem Bus.extRamWrite_absent (b : Bus) (n : Nat) (v : Byte) (h : b.extRamPresent = false) : b.extRamWrite n v = b := by
  rw [Bus.extRamWrite, h]
  rfl

/-- Settles O40: external RAM that is present is read back, and a store to absent external RAM does nothing. -/
theorem extRamStore : Obligations.ExtRamStore := by
  unfold Obligations.ExtRamStore
  intro b a x v hSound h1 h2
  refine ⟨fun hOn hSize => ?_, fun hOff => ?_⟩
  · exact b.read_write_extRam a x v hSound.extRamWf h1 h2 (b.extRamPresent_iff.mpr ⟨hOn, hSize⟩)
  · rw [b.write_extRam a v h1 h2, b.extRamWrite_absent _ _ (b.extRamPresent_false_iff.mpr hOff)]

/-! ## The mapper's control writes (R70 to R72, R74, R76) -/

theorem Bus.write_control_plain (b : Bus) (a : Word) (v : Byte) (hm : b.cart.mapper = .plain) (h : a.toNat < 0x8000) :
    b.write a v = b := by
  rw [b.write_control a v h, Bus.controlWrite, hm]

theorem Bus.write_control_mbc1 (b : Bus) (a : Word) (v : Byte) (hm : b.cart.mapper = .mbc1) (h : a.toNat < 0x8000) :
    b.write a v = b.mbc1Write a.toNat v := by
  rw [b.write_control a v h, Bus.controlWrite, hm]

theorem Bus.mbc1Write_ramEnable (b : Bus) {n : Nat} (v : Byte) (h : n < 0x2000) :
    b.mbc1Write n v = { b with ramEnabled := v &&& 0x0F == 0x0A } := if_pos h

theorem Bus.mbc1Write_romBankLo (b : Bus) {n : Nat} (v : Byte) (h1 : 0x2000 ≤ n) (h2 : n < 0x4000) :
    b.mbc1Write n v = { b with romBankLo := if v &&& 0x1F = 0x00 then 1 else v.extractLsb' 0 5 } := by
  rw [Bus.mbc1Write, if_neg (by omega), if_pos h2]

theorem Bus.mbc1Write_romBankHi (b : Bus) {n : Nat} (v : Byte) (h1 : 0x4000 ≤ n) (h2 : n < 0x6000) :
    b.mbc1Write n v = { b with romBankHi := v.extractLsb' 0 2 } := by
  rw [Bus.mbc1Write, if_neg (by omega), if_neg (by omega), if_pos h2]

theorem Bus.mbc1Write_bankingMode (b : Bus) {n : Nat} (v : Byte) (h : 0x6000 ≤ n) :
    b.mbc1Write n v = { b with bankingMode := v != 0x00 } := by
  rw [Bus.mbc1Write, if_neg (by omega), if_neg (by omega), if_neg (by omega)]

/-- A masked byte is a remainder when the mask is the low `k` bits. -/
theorem and_lowMask_eq_iff (v c m : Byte) (k : Nat) (hm : m.toNat = 2 ^ k - 1) : v &&& m = c ↔ v.toNat % 2 ^ k = c.toNat := by
  rw [← BitVec.toNat_inj, BitVec.toNat_and, hm, Nat.and_two_pow_sub_one_eq_mod]

/-- The low bits of a byte as the number that R71 and R72 compute. -/
theorem extractLow_eq_ofNat (v : Byte) (k : Nat) : v.extractLsb' 0 k = BitVec.ofNat k (v.toNat % 2 ^ k) := by
  apply BitVec.eq_of_toNat_eq
  simp

/-- R71: bank 0 becomes bank 1. -/
theorem romBankLo_eq (v : Byte) :
    (if v &&& 0x1F = 0x00 then 1 else v.extractLsb' 0 5 : BitVec 5) =
      BitVec.ofNat 5 (if v.toNat % 32 = 0 then 1 else v.toNat % 32) := by
  simp only [and_lowMask_eq_iff v 0x00 0x1F 5 rfl, extractLow_eq_ofNat]
  exact (apply_ite (BitVec.ofNat 5) _ _ _).symm

/-- Settles O41: the control write of each range, its bits read as numbers. -/
theorem mbc1Control : Obligations.Mbc1Control := by
  unfold Obligations.Mbc1Control
  intro b a v
  refine ⟨fun hm h => b.write_control_plain a v hm h, fun hm h => ?_, fun hm h1 h2 => ?_, fun hm h1 h2 => ?_, fun hm h1 h2 => ?_⟩
  · rw [b.write_control_mbc1 a v hm (by omega), b.mbc1Write_ramEnable v h, beq_eq_decide,
      decide_eq_decide.mpr (and_lowMask_eq_iff v 0x0A 0x0F 4 rfl)]
    rfl
  · rw [b.write_control_mbc1 a v hm (by omega), b.mbc1Write_romBankLo v h1 h2, romBankLo_eq]
  · rw [b.write_control_mbc1 a v hm (by omega), b.mbc1Write_romBankHi v h1 h2, extractLow_eq_ofNat]
    rfl
  · rw [b.write_control_mbc1 a v hm h2, b.mbc1Write_bankingMode v h1, bne, beq_eq_decide, ← decide_not]

/-! ## The object memory copy (R75) -/

/-- Each byte of the object memory after a DMA write. -/
theorem Bus.read_dma_oam (b : Bus) (v : Byte) {k : Nat} (hw : Memory.wf b.mem = true) (hk : k < 160) :
    (b.dma v).read (BitVec.ofNat 16 (0xFE00 + k)) = b.read (BitVec.ofNat 16 (v.toNat * 256 + k)) := by
  have hx : (BitVec.ofNat 16 (0xFE00 + k)).toNat = 0xFE00 + k := by
    rw [BitVec.toNat_ofNat]; omega
  rw [Bus.dma, Bus.read_setIo_other _ _ _ (by omega), Bus.read_mem _ _ (by omega), hx,
    b.oamCopy_read v 160 k hw (Nat.le_refl _) hk]

theorem Bus.read_dma_register (b : Bus) (v : Byte) (hw : Memory.wf b.mem = true) : (b.dma v).read 0xFF46 = v :=
  Bus.read_setIo_same (b.oamCopy v 160) v 0xFF46 (b.oamCopy_wf v 160 hw) (.inr (by decide))

theorem not_reaches_dma {x : Word} (hOam : ¬(0xFE00 ≤ x.toNat ∧ x.toNat < 0xFEA0)) (hReg : x ≠ 0xFF46) : ¬reaches 0xFF46 x := by
  rw [reaches, if_neg (by decide), if_pos rfl]
  exact not_or.mpr ⟨hOam, hReg⟩

/-- Settles O42: the copied bytes, the register's byte, and the frame of the write. -/
theorem dmaCopiesThePage : Obligations.DmaCopiesThePage := by
  unfold Obligations.DmaCopiesThePage
  intro b v hSound
  refine ⟨fun k hk => ?_, ?_, fun x hOam hReg => ?_⟩
  · rw [b.write_dma]
    exact b.read_dma_oam v hSound.memWf hk
  · rw [b.write_dma]
    exact b.read_dma_register v hSound.memWf
  · exact b.read_write_frame 0xFF46 x v (not_reaches_dma hOam hReg)

/-! ## Where every instruction stores (R61, R62, R69) -/

theorem StoresAt.congr {as bs : List Word} {s t : State} (h : StoresAt as s t) (e : as = bs) : StoresAt bs s t := e ▸ h

theorem slotOperand_ne_adjusting (r : BitVec 3) : slotOperand r ≠ .atHlInc ∧ slotOperand r ≠ .atHlDec := by
  revert r; decide

theorem slotOperand_eq_atHl_iff (r : BitVec 3) : slotOperand r = .atHl ↔ r = slotHL := by
  revert r; decide

theorem slotOperand_cases (r : BitVec 3) : slotOperand r = .atHl ∨ ∃ q, slotOperand r = .reg q := by
  unfold slotOperand pick8
  split
  case h_7 => exact .inl rfl
  all_goals exact .inr ⟨_, rfl⟩

/-- Among the operand slots only `(HL)` is a place in memory (R113). -/
theorem slotOperand_storesAt (r : BitVec 3) (s : State) : (slotOperand r).storesAt s = if r = slotHL then [s.hl] else [] := by
  rcases slotOperand_cases r with h | ⟨q, h⟩
  · rw [if_pos ((slotOperand_eq_atHl_iff r).mp h), h]
    rfl
  · have hNot : ¬r = slotHL := by rw [← slotOperand_eq_atHl_iff, h]; nofun
    rw [if_neg hNot, h]
    rfl

/-- The four groups of the CB page: `BIT` stores nothing, the others store to their slot (R118, R286). -/
theorem cbPage_bus (cb : Byte) (s : State) : StoresAt (cbStores cb s) s (cbPage cb s) := by
  by_cases hBit : fieldX cb = 1
  · rw [cbPage, hBit]
    exact .ofEq (testBit_bus _ _ s)
  · have hPlace : cbStores cb s = (slotOperand (fieldZ cb)).storesAt s := by
      simp only [cbStores, slotOperand_storesAt, hBit, ne_eq, not_false_eq_true, and_true]
    have hSlot := slotOperand_ne_adjusting (fieldZ cb)
    rw [hPlace]
    exact pick4_cases (P := StoresAt _ s) _ (shift8_bus _ _ hSlot s) (.ofEq (testBit_bus _ _ s)) (clearBit_bus _ _ hSlot s)
      (setBit_bus _ _ hSlot s)

theorem prefixPage_bus (s : State) : StoresAt (storesOf .prefixCb s) s (prefixPage s) :=
  .after (t := s.fetch8.2) rfl (cbPage_bus s.fetch8.1 s.fetch8.2)

/-- Every body changes what its stores reach and nothing else: each is a shared operation whose bus lemma names the place it stores
to, and `storesOf` lists that place. -/
theorem exec_storesAt {i : Instr} {s t : State} (e : exec i s = .next t) : StoresAt (storesOf i s) s t := by
  cases i <;> (injection e with e; subst e)
  case prefixCb => exact prefixPage_bus s
  case pushBc | pushDe | pushHl | pushAf => exact pushPair_bus _ s
  case rst00 | rst08 | rst10 | rst18 | rst20 | rst28 | rst30 | rst38 => exact restart_bus _ s
  case callNn | callNzNn | callZNn | callNcNn | callCNn => exact (call_bus _ _ s).congr rfl
  case jpNzNn | jpZNn | jpNcNn | jpCNn => exact .ofEq (jump_bus _ _ s)
  case jrNzE8 | jrZE8 | jrNcE8 | jrCE8 => exact .ofEq (jumpRelative_bus _ _ s)
  case retNz | retZ | retNc | retC => exact .ofEq (retCond_bus _ s)
  case ldAtNnSp nn => exact ld16_bus_mem nn _ s
  all_goals with_reducible first
    | refine (ld8_bus _ _ _).congr ?_
    | refine (inc8_bus _ (by decide) _).congr ?_
    | refine (dec8_bus _ (by decide) _).congr ?_
    | refine (shift8_bus _ _ (by decide) _).congr ?_
    | refine (clearBit_bus _ _ (by decide) _).congr ?_
    | refine (setBit_bus _ _ (by decide) _).congr ?_
    | refine .ofEq ?_
  all_goals rfl

/-- Settles O35: the two parts of where an instruction stores. -/
theorem execMemoryFrame : Obligations.ExecMemoryFrame := by
  unfold Obligations.ExecMemoryFrame
  intro i s t e
  obtain ⟨hNone, hOther⟩ := exec_storesAt e
  exact ⟨hNone, hOther⟩

end Sys2Proof.Machine

/-! PROOFS. The encoding: the decoder and the encoder agree (O1, O2, O3), the undefined encodings and STOP (O4, O5), the CB page
(O30), and the step that runs what is decoded (O52, O54). -/

namespace Sys2Proof.Machine

/-! ## Fields of an opcode (R111) -/

/-- The eight values of a 3-bit field. -/
theorem field3_cases {P : BitVec 3 → Prop} (v0 : P 0) (v1 : P 1) (v2 : P 2) (v3 : P 3) (v4 : P 4) (v5 : P 5) (v6 : P 6) (v7 : P 7)
    (n : BitVec 3) : P n := by
  obtain ⟨k⟩ := n
  fin_cases k <;> assumption

/-- The four values of a 2-bit field. -/
theorem field2_cases {P : BitVec 2 → Prop} (v0 : P 0) (v1 : P 1) (v2 : P 2) (v3 : P 3) (n : BitVec 2) : P n := by
  obtain ⟨k⟩ := n
  fin_cases k <;> assumption

theorem fields_append (op : Byte) : fieldX op ++ fieldY op ++ fieldZ op = op := by revert op; decide

theorem instrLength_le (op : Byte) : instrLength op ≤ 3 := by revert op; decide

theorem instrLength_ne_zero (op : Byte) : instrLength op ≠ 0 := by revert op; decide

/-! ## The cells of the grids (R123, R124) -/

/-- `i` stands in the cell `op` with the immediate `nn`: it is well-formed, and its encoding is the opcode and as many bytes of the
immediate as the length of the cell says. -/
structure Encodes (op : Byte) (nn : Word) (i : Instr) : Prop where
  wellFormed : i.wellFormed = true
  bytes : encode i = [op, loByte nn, hiByte nn].take (instrLength op)

/-- The CB page: every opcode of it stands in the cell 0xCB with its own byte as the first of the immediate (R124). -/
theorem cbCell_encodes (nn : Word) : Encodes 0xCB nn (cbRow (loByte nn)) := by
  have hPage : ∀ cb : Byte, (cbRow cb).wellFormed = true ∧ encode (cbRow cb) = [0xCB, cb] := by decide
  obtain ⟨hWf, hBytes⟩ := hPage (loByte nn)
  exact ⟨hWf, hBytes⟩

/-- The 0x10 pair is STOP or, with another byte, the undefined form (R126). -/
theorem stopCell_encodes (nn : Word) : Encodes 0x10 nn (if loByte nn = 0x00 then .stop else .illegalStop (loByte nn)) := by
  split
  next h => exact ⟨rfl, (congrArg (fun n => [0x10, n]) h).symm⟩
  next h => exact ⟨bne_iff_ne.mpr h, rfl⟩

theorem rowX0_encodes (y z : BitVec 3) (nn : Word) : Encodes (0#2 ++ y ++ z) nn (rowX0 y z (loByte nn) nn) := by
  cases z using field3_cases <;> cases y using field3_cases
  case v0.v2 => exact stopCell_encodes nn
  all_goals exact ⟨rfl, rfl⟩

theorem rowLd_encodes (y z : BitVec 3) (nn : Word) : Encodes (1#2 ++ y ++ z) nn (rowLd y z) := by
  cases y using field3_cases <;> cases z using field3_cases <;> exact ⟨rfl, rfl⟩

theorem rowAlu_encodes (y z : BitVec 3) (nn : Word) : Encodes (2#2 ++ y ++ z) nn (rowAlu y z) := by
  cases y using field3_cases <;> cases z using field3_cases <;> exact ⟨rfl, rfl⟩

theorem rowX3_encodes (y z : BitVec 3) (nn : Word) : Encodes (3#2 ++ y ++ z) nn (rowX3 y z (loByte nn) nn) := by
  cases z using field3_cases <;> cases y using field3_cases
  case v3.v1 => exact cbCell_encodes nn
  all_goals exact ⟨rfl, rfl⟩

/-- What the decoder reads at an opcode stands in its cell. -/
theorem decodeAt_encodes (op : Byte) (nn : Word) : Encodes op nn (decodeAt op (loByte nn) (hiByte nn)) := by
  have h : Encodes (fieldX op ++ fieldY op ++ fieldZ op) nn (decodeAt op (loByte nn) (hiByte nn)) := by
    rw [decodeAt, wordOfBytes, append_hiByte_loByte]
    cases fieldX op using field2_cases
    · exact rowX0_encodes _ _ nn
    · exact rowLd_encodes _ _ nn
    · exact rowAlu_encodes _ _ nn
    · exact rowX3_encodes _ _ nn
  rwa [fields_append] at h

theorem decodeAt_wellFormed (op b1 b2 : Byte) : (decodeAt op b1 b2).wellFormed = true := by
  simpa using (decodeAt_encodes op (b2 ++ b1)).wellFormed

theorem encode_decodeAt (op b1 b2 : Byte) : encode (decodeAt op b1 b2) = [op, b1, b2].take (instrLength op) := by
  simpa using (decodeAt_encodes op (b2 ++ b1)).bytes

theorem head_encode_decodeAt (op b1 b2 : Byte) : (encode (decodeAt op b1 b2)).head? = some op := by
  rw [encode_decodeAt, List.head?_take, if_neg (instrLength_ne_zero op)]
  rfl

theorem length_encode_decodeAt (op b1 b2 : Byte) : (encode (decodeAt op b1 b2)).length = instrLength op := by
  rw [encode_decodeAt, List.length_take]
  exact Nat.min_eq_left (instrLength_le op)

/-! ## The decoder on a byte sequence (R110, R122) -/

theorem decode_cons (op : Byte) (rest : List Byte) :
    decode (op :: rest) =
      if op = 0xCB ∧ rest = [] then .ok .prefixCb
      else if rest.length + 1 < instrLength op then .error (.truncated op)
      else .ok (decodeAt op (rest.getD 0 0x00) (rest.getD 1 0x00)) := by
  simp only [decode, Bool.and_eq_true, decide_eq_true_eq, List.isEmpty_iff]

/-- A byte sequence that decodes is the byte 0xCB alone, or is as long as its opcode needs. -/
theorem decode_eq_ok {bytes : List Byte} {i : Instr} (h : decode bytes = .ok i) :
    (bytes = [0xCB] ∧ i = .prefixCb) ∨
      ∃ op rest, bytes = op :: rest ∧ instrLength op ≤ rest.length + 1 ∧ i = decodeAt op (rest.getD 0 0x00) (rest.getD 1 0x00) := by
  cases bytes with
  | nil => cases h
  | cons op rest =>
    rw [decode_cons] at h
    split at h
    next hPrefix =>
      cases h
      exact .inl ⟨by rw [hPrefix.1, hPrefix.2], rfl⟩
    split at h
    · cases h
    next hLength =>
      cases h
      exact .inr ⟨op, rest, rfl, Nat.not_lt.mp hLength, rfl⟩

/-- Three bytes are enough for every opcode. -/
theorem decode_three (op b1 b2 : Byte) : decode [op, b1, b2] = .ok (decodeAt op b1 b2) := by
  rw [decode_cons, if_neg nofun]
  exact if_neg (Nat.not_lt.mpr (instrLength_le op))

/-- The bytes that the decoder looks at are those of the sequence, as far as the sequence has them. -/
theorem take_getD (op : Byte) (rest : List Byte) {n : Nat} (hn : n ≤ 3) (h : n ≤ rest.length + 1) :
    [op, rest.getD 0 0x00, rest.getD 1 0x00].take n = (op :: rest).take n := by
  match n, rest with
  | 0, _ => rfl
  | 1, _ => rfl
  | 2, _ :: _ => rfl
  | 3, _ :: _ :: _ => rfl

/-- Settles O1, instruction by instruction: a 16-bit immediate is put together again from its two bytes, and the second byte of the
undefined 0x10 form is not that of STOP. -/
theorem decodeEncodeAgree : Obligations.DecodeEncodeAgree := by
  unfold Obligations.DecodeEncodeAgree
  intro i h
  cases i
  case illegalStop b => exact congrArg Except.ok (if_neg (bne_iff_ne.mp h))
  case ldBcNn nn | ldDeNn nn | ldHlNn nn | ldSpNn nn | ldAtNnSp nn | ldAtNnA nn | ldAAtNn nn | jpNn nn | jpNzNn nn | jpZNn nn |
    jpNcNn nn | jpCNn nn | callNn nn | callNzNn nn | callZNn nn | callNcNn nn | callCNn nn =>
    exact congrArg Except.ok (congrArg _ (append_hiByte_loByte nn))
  all_goals rfl

/-- Settles O2: the encoding of what is decoded is the beginning of the bytes that the decoder read. -/
theorem decodedBytesAreTheEncoding : Obligations.DecodedBytesAreTheEncoding := by
  unfold Obligations.DecodedBytesAreTheEncoding
  intro bytes i h
  rcases decode_eq_ok h with ⟨rfl, rfl⟩ | ⟨op, rest, rfl, hLength, rfl⟩
  · exact ⟨rfl, [], rfl⟩
  · refine ⟨decodeAt_wellFormed _ _ _, (op :: rest).drop (instrLength op), ?_⟩
    rw [encode_decodeAt, take_getD op rest (instrLength_le op) hLength, List.take_append_drop]

/-- Settles O3, by evaluation of the decoder on each word. -/
theorem decodedWords : Obligations.DecodedWords := by
  unfold Obligations.DecodedWords
  decide

/-! ## The CB page (R118, R124, R315) -/

/-- The body of a CB-page instruction is the rule of its opcode: group by group, operation by operation, slot by slot. -/
theorem exec_cbRow (cb : Byte) (s : State) : exec (cbRow cb) s = .next (cbPage cb s) := by
  unfold cbRow cbPage
  cases fieldX cb using field2_cases <;> cases fieldY cb using field3_cases <;> cases fieldZ cb using field3_cases <;> rfl

theorem State.fetch8_advance (s : State) (n : Nat) :
    (s.advance n).fetch8 = (s.bus.read (s.pc + BitVec.ofNat 16 n), s.advance (n + 1)) := by
  have hPc : s.pc + BitVec.ofNat 16 n + 1 = s.pc + BitVec.ofNat 16 (n + 1) := by
    rw [BitVec.ofNat_add, ← BitVec.add_assoc]
    rfl
  rw [State.fetch8, State.advance_pc, hPc]
  rfl

/-- Settles O30: after its own fetch PREFIX CB fetches the CB opcode and is its rule. -/
theorem prefixIsCbPage : Obligations.PrefixIsCbPage := by
  unfold Obligations.PrefixIsCbPage
  intro s b
  refine ⟨exec_next _ s, ?_⟩
  calc exec .prefixCb (s.advance 1)
      _ = .next (cbPage (s.advance 1).fetch8.1 (s.advance 1).fetch8.2) := rfl
      _ = .next (cbPage (s.bus.read (s.pc + 1)) (s.advance 2)) := by rw [State.fetch8_advance]; rfl
      _ = exec (decodeAt 0xCB (s.bus.read (s.pc + 1)) b) (s.advance 2) := (exec_cbRow _ _).symm

/-! ## The undefined encodings and STOP (R125, R126, R312, R316) -/

/-- The opcodes that name no instruction (R125). -/
def undefinedOpcodes : List Byte := [0xD3, 0xDB, 0xDD, 0xE3, 0xE4, 0xEB, 0xEC, 0xED, 0xF4, 0xFC, 0xFD]

theorem exec_decodeAt_undefined {op : Byte} (h : op ∈ undefinedOpcodes) (b1 b2 : Byte) (s : State) :
    exec (decodeAt op b1 b2) s = .next (illegalOpcode op s) := by
  simp only [undefinedOpcodes, List.mem_cons, List.not_mem_nil, or_false] at h
  rcases h with rfl | rfl | rfl | rfl | rfl | rfl | rfl | rfl | rfl | rfl | rfl <;> rfl

theorem instrLength_undefined {op : Byte} (h : op ∈ undefinedOpcodes) : instrLength op = 1 := by
  revert op; decide

/-- After its fetch an undefined opcode records the address it was fetched from. -/
theorem illegalOpcode_advance (op : Byte) (s : State) :
    illegalOpcode op (s.advance 1) =
      { s with pc := s.pc + 1, mCycle := s.mCycle + 1, fault := some (.illegalOpcode op s.pc) } := by
  have hPc : (s.advance 1).pc - 1 = s.pc := BitVec.add_sub_cancel s.pc 1
  rw [illegalOpcode, hPc]
  rfl

/-- After its two fetches the undefined 0x10 pair records the address of 0x10. -/
theorem illegalStopPair_advance (b : Byte) (s : State) :
    illegalStopPair b (s.advance 2) =
      { s with pc := s.pc + 2, mCycle := s.mCycle + 2, fault := some (.illegalStop b s.pc) } := by
  have hPc : (s.advance 2).pc - 2 = s.pc := BitVec.add_sub_cancel s.pc 2
  rw [illegalStopPair, hPc]
  rfl

/-- What a body does with the fault: it keeps it, or it is that of an undefined encoding. -/
theorem exec_fault {i : Instr} {s t : State} (e : exec i s = .next t) :
    t.fault = s.fault ∨ (∃ op ∈ undefinedOpcodes, encode i = [op] ∧ t = illegalOpcode op s) ∨
      ∃ b, i = .illegalStop b ∧ t = illegalStopPair b s := by
  rcases exec_keeps e with h | ⟨_, _, h⟩ | hSystem | ⟨b, rfl⟩
  · exact .inl h.fault
  · exact .inl h
  · simp only [List.mem_cons, List.not_mem_nil, or_false] at hSystem
    rcases hSystem with rfl | rfl | rfl | rfl | rfl | hUndefined
    iterate 4 cases e; exact .inl rfl
    · cases e
      exact .inl (cbPage_straight _ s.fetch8.2).fault
    · rcases hUndefined with rfl | rfl | rfl | rfl | rfl | rfl | rfl | rfl | rfl | rfl | rfl
      all_goals cases e; exact .inr (.inl ⟨_, by decide, rfl, rfl⟩)
  · cases e
    exact .inr (.inr ⟨b, rfl, rfl⟩)

/-- Settles O4: the body of an undefined opcode raises the fault, and a body that raises it is encoded as an undefined opcode. -/
theorem illegalOpcodes : Obligations.IllegalOpcodes := by
  unfold Obligations.IllegalOpcodes
  intro op b1 b2 s
  refine ⟨fun hOp => ?_, fun hOp hFault t o a e hRaised => ?_⟩
  · rw [exec_decodeAt_undefined hOp, illegalOpcode_advance]
  · rcases exec_fault e with h | ⟨op', hOp', hBytes, _⟩ | ⟨b, _, rfl⟩
    · rw [h, State.advance_fault, hFault] at hRaised
      cases hRaised
    · have hHead : some op = some op' := by rw [← head_encode_decodeAt op b1 b2, hBytes]; rfl
      cases hHead
      exact hOp hOp'
    · cases hRaised

/-- Settles O5, by the two cases of the second byte. -/
theorem stopPair : Obligations.StopPair := by
  unfold Obligations.StopPair
  intro b1 b2 s
  have hDecode : decodeAt 0x10 b1 b2 = if b1 = 0x00 then .stop else .illegalStop b1 := rfl
  rw [hDecode]
  by_cases hStop : b1 = 0x00
  · rw [if_pos hStop, if_pos hStop]
    rfl
  · rw [if_neg hStop, if_neg hStop, ← illegalStopPair_advance]
    rfl

/-! ## A step of a running machine (R320, R321) -/

theorem State.codeByte_zero (s : State) : s.codeByte 0 = s.bus.read s.pc := by
  rw [State.codeByte, BitVec.add_zero]

theorem State.beginStep_advance (s : State) (n : Nat) :
    s.beginStep.advance n = { s with pc := s.pc + BitVec.ofNat 16 n, mCycle := n } := by
  rw [State.advance, State.beginStep, Nat.zero_add]

/-- A step of a running machine fetches the instruction at PC, whose opcode byte gives the length, and runs it. -/
theorem step_running {s t : State} (hFault : s.fault = none) (hHalt : s.halt = false)
    (e : exec (decodeAt (s.bus.read s.pc) (s.bus.read (s.pc + 1)) (s.bus.read (s.pc + 2)))
      (s.beginStep.advance (instrLength (s.bus.read s.pc))) = .next t) : step s = .next t.afterBody := by
  rw [← s.codeByte_zero] at e
  have e' : exec s.beginStep.fetchInstr s.beginStep.afterFetch = .next t := e
  rw [step, hFault, hHalt, e']
  rfl

/-- Settles O52: the instruction that is fetched is the one decoded, and its encoding is as long as the fetches. -/
theorem stepRunsDecoded : Obligations.StepRunsDecoded := by
  unfold Obligations.StepRunsDecoded
  intro s i hFault hHalt hDecode
  rw [decode_three] at hDecode
  cases hDecode
  rw [length_encode_decodeAt, ← State.beginStep_advance]
  obtain ⟨t, ht⟩ := exec_next (decodeAt (s.bus.read s.pc) (s.bus.read (s.pc + 1)) (s.bus.read (s.pc + 2)))
    (s.beginStep.advance (instrLength (s.bus.read s.pc)))
  refine ⟨t, ht, ?_⟩
  rw [step_running hFault hHalt ht]
  rcases t.afterBody_cases with ⟨h, hAfter⟩ | ⟨h, hAfter⟩
  · rw [hAfter, if_neg h]
  · rw [hAfter, if_pos h]

/-- Settles O54: the body ends the step, and a stopped machine stays as it is. -/
theorem decodeFatalStopsTheMachine : Obligations.DecodeFatalStopsTheMachine := by
  unfold Obligations.DecodeFatalStopsTheMachine
  intro s hFault hHalt hOp t
  have hBody : exec (decodeAt (s.bus.read s.pc) (s.bus.read (s.pc + 1)) (s.bus.read (s.pc + 2)))
      (s.beginStep.advance (instrLength (s.bus.read s.pc))) = .next t := by
    rw [exec_decodeAt_undefined hOp, instrLength_undefined hOp, illegalOpcode_advance]
    rfl
  exact ⟨step_running hFault hHalt hBody, rfl⟩

end Sys2Proof.Machine

/-! PROOFS. The accumulator operations with carry (O15, O17), SP with a signed offset (O11), and that every step answers a next
state (O55). -/

namespace Sys2Proof.Machine

/-! ## The accumulator operations (R117, R210) -/

theorem exec_decodeAt_alu (op : AluOp) (r : Reg8) (n b : Byte) (s : State) :
    exec (decodeAt (2#2 ++ op.code ++ r.code) n b) s = .next (accumulate op (.operand (.reg r)) s) := by
  cases op <;> cases r <;> rfl

theorem exec_decodeAt_aluAtHl (op : AluOp) (n b : Byte) (s : State) :
    exec (decodeAt (2#2 ++ op.code ++ slotHL) n b) s = .next (accumulate op (.operand .atHl) s) := by
  cases op <;> rfl

theorem exec_decodeAt_aluImm (op : AluOp) (n b : Byte) (s : State) :
    exec (decodeAt (3#2 ++ op.code ++ 6#3) n b) s = .next (accumulate op (.imm n) s) := by
  cases op <;> rfl

/-- The state with A and the four flags as an accumulator operation gives them. -/
def State.withAlu (s : State) (o : AluOut) : State := { s with regs := { s.regs with a := o.a, f := flagByte o.z o.n o.h o.c } }

/-- R210: the source is read, then A and F are written and nothing else. -/
theorem accumulate_eq (op : AluOp) (src : Source8) (s : State) :
    accumulate op src s = (loadSource8 src s).2.withAlu
      (aluEval op (loadSource8 src s).2.regs.a (loadSource8 src s).1 (loadSource8 src s).2.regs.flagC) := by
  rw [accumulate, State.setFlags, Regs.setFlags_eq]
  rfl

/-- An accumulator operation answers, in each of its three operand forms, what `aluEval` gives. -/
theorem accumulatorForms_aluEval (op : AluOp) : AccumulatorForms op (aluEval op) := by
  intro s r n b
  refine ⟨?_, ?_, ?_⟩
  · rw [exec_decodeAt_alu, accumulate_eq]; rfl
  · rw [exec_decodeAt_aluAtHl, accumulate_eq]; rfl
  · rw [exec_decodeAt_aluImm, accumulate_eq]; rfl

/-- It is enough to say what `aluEval` gives. -/
theorem AccumulatorForms.of_aluEval {op : AluOp} {out : Byte → Byte → Bool → AluOut}
    (h : ∀ a v cin, aluEval op a v cin = out a v cin) : AccumulatorForms op out := by
  have hOut : aluEval op = out := funext fun a => funext fun v => funext fun cin => h a v cin
  exact hOut ▸ accumulatorForms_aluEval op

/-! ## Addition and subtraction with carry as one-stage sums (R144) -/

/-- Z of a sum, from the exact sum. -/
theorem ofNat_beq_zero (n : Nat) : (BitVec.ofNat 8 n == 0x00) = decide (n % 256 = 0) := by
  rw [Bool.beq_eq_decide_eq, decide_eq_decide, BitVec.toNat_eq, BitVec.toNat_ofNat]
  rfl

/-- Z of a difference, from the exact difference. -/
theorem ofInt_beq_zero (d : Int) : (BitVec.ofInt 8 d == 0x00) = decide (d % 256 = 0) := by
  rw [Bool.beq_eq_decide_eq, decide_eq_decide, BitVec.toNat_eq, BitVec.toNat_ofInt]
  change (d % 256).toNat = 0 ↔ d % 256 = 0
  omega

theorem ofInt_sub {w : Nat} (x y : Int) : BitVec.ofInt w (x - y) = BitVec.ofInt w x - BitVec.ofInt w y := by
  rw [Int.sub_eq_add_neg, BitVec.ofInt_add, BitVec.ofInt_neg, ← BitVec.sub_eq_add_neg]

theorem adc8_res_eq_ofNat (a v : Byte) (c : Bool) : (adc8 a v c).res = BitVec.ofNat 8 (a.toNat + v.toNat + c.toNat) := by
  apply BitVec.eq_of_toNat_eq
  rw [adc8_res, BitVec.toNat_add, BitVec.toNat_add, carryByte_toNat, BitVec.toNat_ofNat, Nat.mod_add_mod]

theorem sbc8_res_eq_ofInt (a v : Byte) (c : Bool) : (sbc8 a v c).res = BitVec.ofInt 8 ((a.toNat : Int) - v.toNat - c.toNat) := by
  rw [sbc8_res, ← carryByte_toNat, ofInt_sub, ofInt_sub]
  simp only [BitVec.ofInt_natCast, BitVec.ofNat_toNat, BitVec.setWidth_eq]

/-- Settles O15: the two-stage sum has the result, carry and half carry of the one-stage sum. -/
theorem adcResult : Obligations.AdcResult :=
  .of_aluEval fun a v cin => by
    rw [aluEval, adc8_carry, adc8_half, adc8_res_eq_ofNat, ofNat_beq_zero]

/-- Settles O17: the two-stage difference has the result, borrow and half borrow of the one-stage difference. -/
theorem sbcResult : Obligations.SbcResult :=
  .of_aluEval fun a v cin => by
    rw [aluEval, sbc8_carry, sbc8_half, sbc8_res_eq_ofInt, ofInt_beq_zero]

/-! ## SP with a signed offset (R143, R193, R253) -/

theorem add16Signed8_res (base : Word) (off : Byte) :
    (add16Signed8 base off).res = BitVec.ofInt 16 ((base.toNat : Int) + off.toInt) := by
  rw [BitVec.ofInt_add, BitVec.ofInt_natCast, BitVec.ofNat_toNat, BitVec.setWidth_eq]
  rfl

theorem add16Signed8_carry (base : Word) (off : Byte) :
    (add16Signed8 base off).carry = decide (base.toNat % 256 + off.toNat ≥ 256) := by
  rw [← loByte_toNat]
  rfl

theorem add16Signed8_half (base : Word) (off : Byte) :
    (add16Signed8 base off).half = decide (base.toNat % 16 + off.toNat % 16 ≥ 16) := by
  have hNibble : base.toNat % 256 % 16 = base.toNat % 16 := Nat.mod_mod_of_dvd _ (by decide)
  rw [add16Signed8, add8_half, loByte_toNat, hNibble]

/-- F after SP is added to a signed offset: Z and N are 0, H and C those of the low-byte addition. -/
def offsetFlags (base : Word) (off : Byte) : Byte :=
  flagByte false false (add16Signed8 base off).half (add16Signed8 base off).carry

theorem offsetFlags_eq (base : Word) (off : Byte) :
    offsetFlags base off =
      flagByte false false (decide (base.toNat % 16 + off.toNat % 16 ≥ 16)) (decide (base.toNat % 256 + off.toNat ≥ 256)) := by
  rw [offsetFlags, add16Signed8_half, add16Signed8_carry]

theorem ldHlSpOffset_advance (off : Byte) (s : State) (n : Nat) :
    ldHlSpOffset off (s.advance n) =
      { s with
        regs := { s.regs with
          h := hiByte (add16Signed8 s.sp off).res, l := loByte (add16Signed8 s.sp off).res, f := offsetFlags s.sp off }
        pc := s.pc + BitVec.ofNat 16 n
        mCycle := s.mCycle + n + 1 } := by
  rw [ldHlSpOffset, State.setFlags, Regs.setFlags_eq]
  rfl

theorem addToSp_advance (off : Byte) (s : State) (n : Nat) :
    addToSp off (s.advance n) =
      { s with
        sp := (add16Signed8 s.sp off).res
        regs := { s.regs with f := offsetFlags s.sp off }
        pc := s.pc + BitVec.ofNat 16 n
        mCycle := s.mCycle + n + 2 } := by
  rw [addToSp, State.setFlags, Regs.setFlags_eq]
  rfl

theorem exec_decodeAt_ldHlSpOffset (e b : Byte) (s : State) : exec (decodeAt 0xF8 e b) s = .next (ldHlSpOffset e s) := rfl

theorem exec_decodeAt_addToSp (e b : Byte) (s : State) : exec (decodeAt 0xE8 e b) s = .next (addToSp e s) := rfl

/-- Settles O11, by the effect of each of the two operations after two fetches. -/
theorem spPlusOffset : Obligations.SpPlusOffset := by
  unfold Obligations.SpPlusOffset
  intro e b s sum f
  have hSum : (add16Signed8 s.sp e).res = sum := add16Signed8_res s.sp e
  have hFlags : offsetFlags s.sp e = f := offsetFlags_eq s.sp e
  constructor
  · rw [exec_decodeAt_ldHlSpOffset, ldHlSpOffset_advance, hSum, hFlags]; rfl
  · rw [exec_decodeAt_addToSp, addToSp_advance, hSum, hFlags]; rfl

/-! ## Every step answers (R320, R343) -/

/-- Settles O55, by the three cases of a step: a stopped machine answers itself, a halted one its M-cycle, and a running one what
follows the body, which always answers. -/
theorem stepAlwaysNext : Obligations.StepAlwaysNext := by
  unfold Obligations.StepAlwaysNext
  intro s
  cases hFault : s.fault with
  | some d => exact ⟨s, by rw [step, hFault]⟩
  | none =>
    cases hHalt : s.halt with
    | true => exact ⟨s.beginStep.haltedStep, by rw [step, hFault, hHalt]; rfl⟩
    | false =>
      obtain ⟨t, ht⟩ := exec_next (decodeAt (s.bus.read s.pc) (s.bus.read (s.pc + 1)) (s.bus.read (s.pc + 2)))
        (s.beginStep.advance (instrLength (s.bus.read s.pc)))
      exact ⟨t.afterBody, step_running hFault hHalt ht⟩

end Sys2Proof.Machine

/-! PROOFS. The 8-bit loads (O6, O7, O8, O9). -/

namespace Sys2Proof.Machine

/-! ## Operands in memory after the fetches (R148, R149, R150) -/

/-- Fetches move no operand. -/
theorem Operand8.place_advance (o : Operand8) (s : State) (n : Nat) : o.place (s.advance n) = o.place s := by
  cases o <;> rfl

theorem Operand8.place_highN (n : Byte) (s : State) : (Operand8.highN n).place s = .mem (0xFF00 + n.zeroExtend 16) :=
  congrArg Place.mem (highAddr_eq n)

theorem Operand8.place_highC (s : State) : Operand8.highC.place s = .mem (0xFF00 + s.regs.c.zeroExtend 16) :=
  congrArg Place.mem (highAddr_eq s.regs.c)

/-- R148: after `n` fetches, the load of an operand at the address `a` is one more M-cycle, and then moves the operand's pointer. -/
theorem load8_advance_of_mem {o : Operand8} {s : State} {a : Word} (hPlace : o.place s = .mem a) (n : Nat) :
    load8 o (s.advance n) =
      (s.bus.read a, o.adjust { s with pc := s.pc + BitVec.ofNat 16 n, mCycle := s.mCycle + n + 1 }) := by
  rw [load8, o.place_advance, hPlace]
  rfl

/-- R149: after `n` fetches, the store to an operand at the address `a` is one more M-cycle, then moves the operand's pointer. -/
theorem store8_advance_of_mem {o : Operand8} {s : State} {a : Word} (hPlace : o.place s = .mem a) (v : Byte) (n : Nat) :
    store8 o v (s.advance n) =
      o.adjust { s with bus := s.bus.write a v, pc := s.pc + BitVec.ofNat 16 n, mCycle := s.mCycle + n + 1 } := by
  rw [store8, o.place_advance, hPlace]
  rfl

/-! ## The forms of an 8-bit load -/

theorem ld8_fromReg (dst : Operand8) (r : Reg8) (s : State) :
    ld8 dst (.operand (.reg r)) s = store8 dst (s.regs.get r) s := rfl

theorem ld8_fromImm (dst : Operand8) (v : Byte) (s : State) : ld8 dst (.imm v) s = store8 dst v s := rfl

/-- A load of a register from the address `a`: the byte is read, the operand's pointer moves, then the register is written. -/
theorem ld8_toReg_advance_of_mem {o : Operand8} {s : State} {a : Word} (hPlace : o.place s = .mem a) (dst : Reg8) (n : Nat) :
    ld8 (.reg dst) (.operand o) (s.advance n) =
      (o.adjust { s with pc := s.pc + BitVec.ofNat 16 n, mCycle := s.mCycle + n + 1 }).setReg dst (s.bus.read a) := by
  rw [ld8, loadSource8, load8_advance_of_mem hPlace]
  rfl

/-! ## Loads of a register, and stores at HL (R170 to R174) -/

theorem exec_decodeAt_ldReg (dst r : Reg8) (n b : Byte) (s : State) :
    exec (decodeAt (1#2 ++ dst.code ++ r.code) n b) s = .next (ld8 (.reg dst) (.operand (.reg r)) s) := by
  cases dst <;> cases r <;> rfl

theorem exec_decodeAt_ldRegImm (dst : Reg8) (n b : Byte) (s : State) :
    exec (decodeAt (0#2 ++ dst.code ++ 6#3) n b) s = .next (ld8 (.reg dst) (.imm n) s) := by
  cases dst <;> rfl

theorem exec_decodeAt_ldRegAtHl (dst : Reg8) (n b : Byte) (s : State) :
    exec (decodeAt (1#2 ++ dst.code ++ 6#3) n b) s = .next (ld8 (.reg dst) (.operand .atHl) s) := by
  cases dst <;> rfl

theorem exec_decodeAt_ldAtHlReg (r : Reg8) (n b : Byte) (s : State) :
    exec (decodeAt (1#2 ++ 6#3 ++ r.code) n b) s = .next (ld8 .atHl (.operand (.reg r)) s) := by
  cases r <;> rfl

theorem exec_decodeAt_ldAtHlImm (n b : Byte) (s : State) :
    exec (decodeAt 0x36 n b) s = .next (ld8 .atHl (.imm n) s) := rfl

/-- Settles O6: only the form that reads (HL) accesses memory, at the HL of before the load. -/
theorem ldToRegister : Obligations.LdToRegister := by
  unfold Obligations.LdToRegister
  intro dst r n b s
  refine ⟨?_, ?_, ?_⟩
  · rw [exec_decodeAt_ldReg, ld8_fromReg]; rfl
  · rw [exec_decodeAt_ldRegImm, ld8_fromImm]; rfl
  · rw [exec_decodeAt_ldRegAtHl, ld8_toReg_advance_of_mem rfl]; rfl

/-- Settles O7, by the effect of a store at HL after the fetches. -/
theorem ldToHl : Obligations.LdToHl := by
  unfold Obligations.LdToHl
  intro r n b s
  constructor
  · rw [exec_decodeAt_ldAtHlReg, ld8_fromReg, store8_advance_of_mem rfl]; rfl
  · rw [exec_decodeAt_ldAtHlImm, ld8_fromImm, store8_advance_of_mem rfl]; rfl

/-! ## Loads and stores of A through a pointer (R175 to R188) -/

/-- An instruction that is `LD A,o`, after its `n` fetches. -/
theorem exec_ldA_advance {i : Instr} {o : Operand8} {s : State} {a : Word} (n : Nat)
    (hExec : ∀ t, exec i t = .next (ld8 (.reg .a) (.operand o) t)) (hPlace : o.place s = .mem a) :
    exec i (s.advance n) =
      .next ((o.adjust { s with pc := s.pc + BitVec.ofNat 16 n, mCycle := s.mCycle + n + 1 }).setReg .a (s.bus.read a)) := by
  rw [hExec, ld8_toReg_advance_of_mem hPlace]

/-- An instruction that is `LD o,A`, after its `n` fetches. -/
theorem exec_storeA_advance {i : Instr} {o : Operand8} {s : State} {a : Word} (n : Nat)
    (hExec : ∀ t, exec i t = .next (ld8 o (.operand (.reg .a)) t)) (hPlace : o.place s = .mem a) :
    exec i (s.advance n) =
      .next (o.adjust { s with bus := s.bus.write a s.regs.a, pc := s.pc + BitVec.ofNat 16 n, mCycle := s.mCycle + n + 1 }) := by
  rw [hExec, ld8_fromReg, store8_advance_of_mem hPlace]
  rfl

/-- Settles O8: each opcode is `LD A,o` for its operand `o`, which stands at the rule's address. -/
theorem ldAFromPointer : Obligations.LdAFromPointer := by
  unfold Obligations.LdAFromPointer
  intro n b s hl
  refine ⟨?_, ?_, ?_, ?_, ?_, ?_, ?_⟩
  · exact exec_ldA_advance (o := .atBc) 1 (fun _ => rfl) rfl
  · exact exec_ldA_advance (o := .atDe) 1 (fun _ => rfl) rfl
  · exact exec_ldA_advance (o := .atNn (b ++ n)) 3 (fun _ => rfl) rfl
  · exact exec_ldA_advance (o := .highN n) 2 (fun _ => rfl) (Operand8.place_highN n s)
  · exact exec_ldA_advance (o := .highC) 1 (fun _ => rfl) (Operand8.place_highC s)
  · exact exec_ldA_advance (o := .atHlInc) 1 (fun _ => rfl) rfl
  · exact exec_ldA_advance (o := .atHlDec) 1 (fun _ => rfl) rfl

/-- Settles O9: each opcode is `LD o,A` for its operand `o`, which stands at the rule's address. -/
theorem ldPointerFromA : Obligations.LdPointerFromA := by
  unfold Obligations.LdPointerFromA
  intro n b s hl
  refine ⟨?_, ?_, ?_, ?_, ?_, ?_, ?_⟩
  · exact exec_storeA_advance (o := .atBc) 1 (fun _ => rfl) rfl
  · exact exec_storeA_advance (o := .atDe) 1 (fun _ => rfl) rfl
  · exact exec_storeA_advance (o := .atNn (b ++ n)) 3 (fun _ => rfl) rfl
  · exact exec_storeA_advance (o := .highN n) 2 (fun _ => rfl) (Operand8.place_highN n s)
  · exact exec_storeA_advance (o := .highC) 1 (fun _ => rfl) (Operand8.place_highC s)
  · exact exec_storeA_advance (o := .atHlInc) 1 (fun _ => rfl) rfl
  · exact exec_storeA_advance (o := .atHlDec) 1 (fun _ => rfl) rfl

end Sys2Proof.Machine

/-! PROOFS. The 16-bit loads (O10), and that POP undoes PUSH (O13). -/

namespace Sys2Proof.Machine

/-! ## The forms of a 16-bit load (R190, R191, R192) -/

theorem exec_decodeAt_ld16Imm (p : Pair) (n b : Byte) (s : State) :
    exec (decodeAt (0#2 ++ p.code ++ 0#1 ++ 1#3) n b) s = .next (ld16 (.reg p.reg16) (.imm (b ++ n)) s) := by
  cases p <;> rfl

theorem exec_decodeAt_ld16AtNnSp (n b : Byte) (s : State) :
    exec (decodeAt 0x08 n b) s = .next (ld16 (.atNn (b ++ n)) (.reg .sp) s) := rfl

theorem exec_decodeAt_ldSpFromHl (n b : Byte) (s : State) : exec (decodeAt 0xF9 n b) s = .next (ldSpFromHl s) := rfl

/-- After the fetches, a load of an immediate word writes the operand in no further M-cycle. -/
theorem ld16_reg_imm_advance (r : Reg16) (v : Word) (s : State) (n : Nat) :
    ld16 (.reg r) (.imm v) (s.advance n) =
      { s.set16 r v with pc := s.pc + BitVec.ofNat 16 n, mCycle := s.mCycle + n } := by
  cases r <;> rfl

/-- After the fetches, a store of a 16-bit operand is two M-cycles, the low byte first (92 D24). -/
theorem ld16_atNn_reg_advance (a : Word) (r : Reg16) (s : State) (n : Nat) :
    ld16 (.atNn a) (.reg r) (s.advance n) =
      { s with
        bus := (s.bus.write a (loByte (s.get16 r))).write (a + 1) (hiByte (s.get16 r))
        pc := s.pc + BitVec.ofNat 16 n
        mCycle := s.mCycle + n + 2 } := by
  cases r <;> rfl

theorem ldSpFromHl_advance (s : State) (n : Nat) :
    ldSpFromHl (s.advance n) = { s with sp := s.hl, pc := s.pc + BitVec.ofNat 16 n, mCycle := s.mCycle + n + 1 } := rfl

/-- Settles O10, by the effect of each of the three operations after its fetches. -/
theorem ldWords : Obligations.LdWords := by
  unfold Obligations.LdWords
  intro p n b s t
  refine ⟨?_, ?_, ?_⟩
  · rw [exec_decodeAt_ld16Imm, ld16_reg_imm_advance]; rfl
  · rw [exec_decodeAt_ld16AtNnSp, ld16_atNn_reg_advance]; rfl
  · rw [exec_decodeAt_ldSpFromHl, ldSpFromHl_advance]; rfl

/-! ## POP after PUSH (R12, R22, R194, R195) -/

/-- The two stack bytes after a push into plain memory: the second store leaves the byte of the first. -/
theorem State.read_pushBus {s : State} (v : Word) (hBus : s.bus.Sound) (hHi : PlainAddress (s.sp - 1))
    (hLo : PlainAddress (s.sp - 2)) :
    (s.pushBus v).read (s.sp - 1) = hiByte v ∧ (s.pushBus v).read (s.sp - 2) = loByte v := by
  have hApart : s.sp - 1 ≠ s.sp - 2 := by bv_omega
  have hBus' : (s.bus.write (s.sp - 1) (hiByte v)).Sound := Bus.write_sound _ _ hBus
  constructor
  · rw [State.pushBus, Bus.read_write_plain _ _ _ _ hBus'.memWf hLo, if_neg hApart,
      Bus.read_write_plain _ _ _ _ hBus.memWf hHi, if_pos rfl]
  · rw [State.pushBus, Bus.read_write_plain _ _ _ _ hBus'.memWf hLo, if_pos rfl]

/-- R12: a pop after a push into plain memory answers the word that was pushed, and puts SP back. -/
theorem State.pop16_push16 {s : State} (v : Word) (hBus : s.bus.Sound) (hHi : PlainAddress (s.sp - 1))
    (hLo : PlainAddress (s.sp - 2)) :
    (s.push16 v).pop16 = (v, { s with bus := s.pushBus v, mCycle := s.mCycle + 4 }) := by
  obtain ⟨hReadHi, hReadLo⟩ := State.read_pushBus v hBus hHi hLo
  have hHiAt : s.sp - 2 + 1 = s.sp - 1 := by bv_omega
  rw [State.push16_eq, State.pop16, hHiAt, hReadHi, hReadLo, append_hiByte_loByte, BitVec.sub_add_cancel]

theorem and_hiNibble_of_and_loNibble {f : Byte} (h : f &&& 0x0F = 0x00) : f &&& 0xF0 = f := by
  revert f; decide

/-- Writing to a 16-bit operand the value it has changes nothing; for AF because F's low nibble is 0 (R22). -/
theorem State.set16_eq_self {s : State} {r : Reg16} {v : Word} (hFlags : s.regs.f &&& 0x0F = 0x00) (hv : s.get16 r = v) :
    s.set16 r v = s := by
  subst hv
  cases r <;> simp only [State.set16, State.get16, hiByte_append, loByte_append, and_hiNibble_of_and_loNibble hFlags]

/-- A stack pair is a view of the registers alone (R21). -/
theorem get16_stackPair_congr (p : StackPair) {s t : State} (h : s.regs = t.regs) : s.get16 p.reg16 = t.get16 p.reg16 := by
  cases p <;> simp only [StackPair.reg16, State.get16, h]

/-- PUSH and then POP of one pair leave the registers and SP, and the pushed bytes in memory. -/
theorem popPair_pushPair {s : State} (p : StackPair) (hSound : s.Sound) (hHi : PlainAddress (s.sp - 1))
    (hLo : PlainAddress (s.sp - 2)) :
    popPair p.reg16 (pushPair p.reg16 s) = { s with bus := s.pushBus (s.get16 p.reg16), mCycle := s.mCycle + 5 } := by
  have hPop : (pushPair p.reg16 s).pop16 =
      (s.get16 p.reg16, { s with bus := s.pushBus (s.get16 p.reg16), mCycle := s.mCycle + 5 }) :=
    State.pop16_push16 (s := s.internal) (s.get16 p.reg16) hSound.bus hHi hLo
  rw [popPair, hPop]
  exact State.set16_eq_self hSound.flagNibble (get16_stackPair_congr p rfl)

/-- The four rows of PUSH and POP, pair by pair (R115). -/
theorem exec_push_pop_of_mem {push pop : Instr} {r : Reg16}
    (h : (push, pop, r) ∈
      [(Instr.pushBc, Instr.popBc, Reg16.bc), (.pushDe, .popDe, .de), (.pushHl, .popHl, .hl), (.pushAf, .popAf, .af)]) :
    ∃ p : StackPair, r = p.reg16 ∧ ∀ s, exec push s = .next (pushPair p.reg16 s) ∧ exec pop s = .next (popPair p.reg16 s) := by
  simp only [List.mem_cons, List.not_mem_nil, or_false, Prod.mk.injEq] at h
  obtain ⟨rfl, rfl, rfl⟩ | ⟨rfl, rfl, rfl⟩ | ⟨rfl, rfl, rfl⟩ | ⟨rfl, rfl, rfl⟩ := h
  · exact ⟨.bc, rfl, fun _ => ⟨rfl, rfl⟩⟩
  · exact ⟨.de, rfl, fun _ => ⟨rfl, rfl⟩⟩
  · exact ⟨.hl, rfl, fun _ => ⟨rfl, rfl⟩⟩
  · exact ⟨.af, rfl, fun _ => ⟨rfl, rfl⟩⟩

/-- Settles O13: the state after the two instructions is the old one but for the bus and the M-cycles. -/
theorem popUndoesPush : Obligations.PopUndoesPush := by
  unfold Obligations.PopUndoesPush
  intro push pop r s t u hRow hSound hHi hLo hPush hPop
  obtain ⟨p, rfl, hExec⟩ := exec_push_pop_of_mem hRow
  rw [(hExec s).1] at hPush
  cases hPush
  rw [(hExec _).2, popPair_pushPair p hSound hHi hLo] at hPop
  cases hPop
  exact ⟨get16_stackPair_congr p rfl, rfl, rfl⟩

end Sys2Proof.Machine

/-! PROOFS. The accumulator operations without carry (O14, O16, O18, O19), INC and DEC (O20), DAA (O21, O22), and CPL, SCF and CCF
(O23). -/

namespace Sys2Proof.Machine

/-! ## Addition, subtraction and comparison (R211 to R219, R232 to R234) -/

theorem add8_res_eq_ofNat (a v : Byte) : (add8 a v).res = BitVec.ofNat 8 (a.toNat + v.toNat) := by
  rw [add8, BitVec.ofNat_add, BitVec.ofNat_toNat, BitVec.ofNat_toNat, BitVec.setWidth_eq, BitVec.setWidth_eq]

theorem sub8_res_eq_ofInt (a v : Byte) : (sub8 a v).res = BitVec.ofInt 8 ((a.toNat : Int) - v.toNat) := by
  rw [ofInt_sub, BitVec.ofInt_natCast, BitVec.ofInt_natCast, BitVec.ofNat_toNat, BitVec.ofNat_toNat, BitVec.setWidth_eq, BitVec.setWidth_eq]
  rfl

theorem add8_carry (a v : Byte) : (add8 a v).carry = decide (a.toNat + v.toNat ≥ 256) := rfl

theorem sub8_carry (a v : Byte) : (sub8 a v).carry = decide (a.toNat < v.toNat) := rfl

/-- A difference is 0 exactly when the operands are equal. -/
theorem sub8_res_beq_zero (a v : Byte) : ((sub8 a v).res == 0x00) = decide (a = v) := by
  rw [Bool.beq_eq_decide_eq, decide_eq_decide]
  exact sub_eq_zero

/-- Settles O14, by the exact sum and its carries. -/
theorem addResult : Obligations.AddResult :=
  .of_aluEval fun a v _ => by
    rw [aluEval, add8_carry, add8_half, add8_res_eq_ofNat, ofNat_beq_zero]

/-- Settles O16, by the exact difference and its borrows. -/
theorem subResult : Obligations.SubResult :=
  .of_aluEval fun a v _ => by
    rw [aluEval, sub8_carry, sub8_half, sub8_res_beq_zero, sub8_res_eq_ofInt]

/-- Settles O19, by the borrows of the difference. -/
theorem cpResult : Obligations.CpResult :=
  .of_aluEval fun a v _ => by
    rw [aluEval, sub8_carry, sub8_half, sub8_res_beq_zero]

/-! ## AND, XOR and OR (R223 to R231) -/

/-- Settles O18: only when each of the three results is 0 is to be said. -/
theorem logicResult : Obligations.LogicResult := by
  refine ⟨.of_aluEval fun a v _ => ?_, .of_aluEval fun a v _ => ?_, .of_aluEval fun a v _ => ?_⟩
  · rw [aluEval, Bool.beq_eq_decide_eq]
  · have hZero : a ^^^ v = 0x00 ↔ a = v := BitVec.xor_eq_zero_iff
    simp only [aluEval, Bool.beq_eq_decide_eq, hZero]
  · have hZero : a ||| v = 0x00 ↔ a = 0 ∧ v = 0 := BitVec.or_eq_zero_iff
    simp only [aluEval, Bool.beq_eq_decide_eq, hZero]

/-! ## INC and DEC (R235 to R238) -/

theorem exec_decodeAt_incReg (r : Reg8) (n b : Byte) (s : State) :
    exec (decodeAt (0#2 ++ r.code ++ 4#3) n b) s = .next (inc8 (.reg r) s) := by
  cases r <;> rfl

theorem exec_decodeAt_decReg (r : Reg8) (n b : Byte) (s : State) :
    exec (decodeAt (0#2 ++ r.code ++ 5#3) n b) s = .next (dec8 (.reg r) s) := by
  cases r <;> rfl

theorem exec_decodeAt_incAtHl (n b : Byte) (s : State) : exec (decodeAt 0x34 n b) s = .next (inc8 .atHl s) := rfl

theorem exec_decodeAt_decAtHl (n b : Byte) (s : State) : exec (decodeAt 0x35 n b) s = .next (dec8 .atHl s) := rfl

/-- F after INC of `v`, with C as it was. -/
def incFlags (v : Byte) (c : Bool) : Byte := flagByte (decide (v = 0xFF)) false (decide (v.toNat % 16 = 15)) c

/-- F after DEC of `v`, with C as it was. -/
def decFlags (v : Byte) (c : Bool) : Byte := flagByte (decide (v = 0x01)) true (decide (v.toNat % 16 = 0)) c

theorem Regs.setFlags_inc (x : Regs) (v : Byte) :
    x.setFlags (some ((add8 v 0x01).res == 0x00)) (some false) (some (add8 v 0x01).half) none =
      { x with f := incFlags v x.flagC } := by
  have hZ : ((add8 v 0x01).res == 0x00) = decide (v = 0xFF) := by
    rw [Bool.beq_eq_decide_eq, decide_eq_decide]
    exact add_eq_zero_iff_eq_neg
  have hH : (add8 v 0x01).half = decide (v.toNat % 16 = 15) := by
    rw [add8_half, decide_eq_decide]
    change v.toNat % 16 + 1 ≥ 16 ↔ v.toNat % 16 = 15
    omega
  rw [Regs.setFlags_eq, hZ, hH]
  rfl

theorem Regs.setFlags_dec (x : Regs) (v : Byte) :
    x.setFlags (some ((sub8 v 0x01).res == 0x00)) (some true) (some (sub8 v 0x01).half) none =
      { x with f := decFlags v x.flagC } := by
  have hH : (sub8 v 0x01).half = decide (v.toNat % 16 = 0) := by
    rw [sub8_half, decide_eq_decide]
    exact Nat.lt_one_iff
  rw [Regs.setFlags_eq, sub8_res_beq_zero, hH]
  rfl

theorem Regs.set_flagC (x : Regs) (r : Reg8) (v : Byte) : (x.set r v).flagC = x.flagC := by
  rw [Regs.flagC, Regs.set_f, Regs.flagC]

theorem inc8_reg (r : Reg8) (s : State) :
    inc8 (.reg r) s =
      { s with regs := { s.regs.set r (s.regs.get r + 1) with f := incFlags (s.regs.get r) s.regs.flagC } } := by
  rw [← Regs.set_flagC s.regs r (s.regs.get r + 1), ← Regs.setFlags_inc]
  rfl

theorem dec8_reg (r : Reg8) (s : State) :
    dec8 (.reg r) s =
      { s with regs := { s.regs.set r (s.regs.get r - 1) with f := decFlags (s.regs.get r) s.regs.flagC } } := by
  rw [← Regs.set_flagC s.regs r (s.regs.get r - 1), ← Regs.setFlags_dec]
  rfl

/-- One M-cycle reads the byte at HL and one writes it back. -/
theorem inc8_atHl (s : State) :
    inc8 .atHl s =
      { s with
        bus := s.bus.write s.hl (s.bus.read s.hl + 1)
        regs := { s.regs with f := incFlags (s.bus.read s.hl) s.regs.flagC }
        mCycle := s.mCycle + 2 } := by
  rw [← Regs.setFlags_inc]
  rfl

theorem dec8_atHl (s : State) :
    dec8 .atHl s =
      { s with
        bus := s.bus.write s.hl (s.bus.read s.hl - 1)
        regs := { s.regs with f := decFlags (s.bus.read s.hl) s.regs.flagC }
        mCycle := s.mCycle + 2 } := by
  rw [← Regs.setFlags_dec]
  rfl

/-- Settles O20, by the effect of the operation on a register and at HL. -/
theorem incDecByte : Obligations.IncDecByte := by
  unfold Obligations.IncDecByte
  intro r n b s hl incF decF
  refine ⟨?_, ?_, ?_, ?_⟩
  · rw [exec_decodeAt_incReg, inc8_reg]; rfl
  · rw [exec_decodeAt_decReg, dec8_reg]; rfl
  · rw [exec_decodeAt_incAtHl, inc8_atHl]; rfl
  · rw [exec_decodeAt_decAtHl, dec8_atHl]; rfl

/-! ## DAA (R239, 92 D18) -/

/-- The correction of the low digit. -/
def daaLow (a : Byte) (n h : Bool) : Nat :=
  if n then (if h then 6 else 0) else if h ∨ a.toNat % 16 > 9 then 6 else 0

/-- The correction of the high digit. -/
def daaHigh (a : Byte) (n c : Bool) : Nat :=
  if n then (if c then 96 else 0) else if c ∨ a.toNat > 0x99 then 96 else 0

/-- A after DAA, as a number: the corrections are subtracted after a subtraction, and added after an addition. -/
def daaSum (a : Byte) (n h c : Bool) : Nat :=
  if n then (a.toNat + 256 - daaLow a n h - daaHigh a n c) % 256 else (a.toNat + daaLow a n h + daaHigh a n c) % 256

/-- The two corrections have no bit in common, so that their OR is their sum. -/
theorem correction_toNat (low high : Bool) :
    ((if low then 0x06 else 0x00) ||| (if high then 0x60 else 0x00) : Byte).toNat =
      (if low then 6 else 0) + (if high then 96 else 0) := by
  cases low <;> cases high <;> rfl

theorem lowNibble_toNat (a : Byte) : (a &&& 0x0F).toNat = a.toNat % 16 := by
  rw [BitVec.toNat_and]
  exact Nat.and_two_pow_sub_one_eq_mod a.toNat 4

theorem daaSum_lt (a : Byte) (n h c : Bool) : daaSum a n h c < 256 := by
  cases n <;> exact Nat.mod_lt _ (by decide)

/-- DAA after an addition: the correction of the high digit is also the new C. -/
theorem daaResult_add (a : Byte) (h c : Bool) :
    daaResult a false h c = (BitVec.ofNat 8 (daaSum a false h c), decide (daaHigh a false c = 96)) := by
  have hLow : daaLow a false h = if h || decide ((a &&& 0x0F).toNat > 0x09) then 6 else 0 := by
    simp only [daaLow, lowNibble_toNat, Bool.or_eq_true, decide_eq_true_eq, Bool.false_eq_true, if_false]
  have hHigh : daaHigh a false c = if c || decide (a.toNat > 0x99) then 96 else 0 := by
    simp only [daaHigh, Bool.or_eq_true, decide_eq_true_eq, Bool.false_eq_true, if_false]
  refine Prod.ext (BitVec.eq_of_toNat_eq ?_) ?_
  · change (a + ((if _ then _ else _) ||| (if _ then _ else _))).toNat = _
    rw [BitVec.toNat_add, correction_toNat, ← hLow, ← hHigh, BitVec.toNat_ofNat, Nat.mod_eq_of_lt (daaSum_lt ..)]
    exact congrArg (· % 256) (Nat.add_assoc ..).symm
  · change (c || decide (a.toNat > 0x99)) = _
    rw [hHigh]
    cases c || decide (a.toNat > 0x99) <;> rfl

/-- DAA after a subtraction: C is kept. -/
theorem daaResult_sub (a : Byte) (h c : Bool) : daaResult a true h c = (BitVec.ofNat 8 (daaSum a true h c), c) := by
  refine Prod.ext (BitVec.eq_of_toNat_eq ?_) rfl
  change (a - ((if h then 0x06 else 0x00) ||| (if c then 0x60 else 0x00))).toNat = _
  rw [BitVec.toNat_sub, correction_toNat, BitVec.toNat_ofNat, Nat.mod_eq_of_lt (daaSum_lt ..)]
  change (256 - (daaLow a true h + daaHigh a true c) + a.toNat) % 256 = (a.toNat + 256 - daaLow a true h - daaHigh a true c) % 256
  have hLow : daaLow a true h ≤ 6 := by cases h <;> simp [daaLow]
  have hHigh : daaHigh a true c ≤ 96 := by cases c <;> simp [daaHigh]
  omega

theorem daaResult_eq (a : Byte) (n h c : Bool) :
    daaResult a n h c = (BitVec.ofNat 8 (daaSum a n h c), if n then c else decide (daaHigh a n c = 96)) := by
  cases n with
  | false => exact daaResult_add a h c
  | true => exact daaResult_sub a h c

theorem exec_decodeAt_daa (n b : Byte) (s : State) : exec (decodeAt 0x27 n b) s = .next (decimalAdjust s) := rfl

/-- What DAA writes: A, and F with N kept and H = 0. -/
def daaOut (a : Byte) (n h c : Bool) : AluOut :=
  { a := (daaResult a n h c).1, z := (daaResult a n h c).1 == 0x00, n := n, h := false, c := (daaResult a n h c).2 }

/-- R239: DAA writes A and F and nothing else. -/
theorem decimalAdjust_eq (s : State) :
    decimalAdjust s = s.withAlu (daaOut s.regs.a s.regs.flagN s.regs.flagH s.regs.flagC) := by
  rw [decimalAdjust, State.setFlags, Regs.setFlags_eq]
  rfl

theorem daaOut_eq (a : Byte) (n h c : Bool) :
    daaOut a n h c =
      { a := BitVec.ofNat 8 (daaSum a n h c)
        z := decide (daaSum a n h c = 0)
        n := n
        h := false
        c := if n then c else decide (daaHigh a n c = 96) } := by
  rw [daaOut, daaResult_eq, ofNat_beq_zero, Nat.mod_eq_of_lt (daaSum_lt ..)]

/-- Settles O21 (the name `daaResult` is the model's), by the two corrections as numbers. -/
theorem daaResult_spec : Obligations.DaaResult := by
  unfold Obligations.DaaResult
  intro n b s a low high res
  rw [exec_decodeAt_daa, decimalAdjust_eq, daaOut_eq]
  rfl

/-! ## DAA after ADD and SUB (R211, R217, R239) -/

/-- Two decimal digits packed into nibbles, as a number. -/
def packedNat (x : Nat) : Nat := 16 * (x / 10) + x % 10

/-- The packed decimal byte of a number below 100. -/
def packed (x : Nat) : Byte := BitVec.ofNat 8 (packedNat x)

/-- Packed numbers add as numbers do, but for 6 where the low digits give a decimal carry: what the low correction makes good. -/
theorem packedNat_add (x y : Nat) : packedNat (x + y) = packedNat x + packedNat y + if x % 10 + y % 10 ≥ 10 then 6 else 0 := by
  simp only [packedNat]
  split <;> omega

theorem packedNat_add_hundred (x : Nat) : packedNat (x + 100) = packedNat x + 160 := by
  simp only [packedNat]
  omega

theorem packedNat_lt_packedNat (x y : Nat) : packedNat x < packedNat y ↔ x < y := by
  simp only [packedNat]
  omega

theorem packedNat_lowNibble (x : Nat) : packedNat x % 16 = x % 10 := by
  rw [packedNat]
  omega

theorem packedNat_lt {x : Nat} (h : x < 100) : packedNat x < 160 := (packedNat_lt_packedNat x 100).2 h

theorem packed_toNat {x : Nat} (h : x < 100) : (packed x).toNat = packedNat x := by
  have := packedNat_lt h
  rw [packed, BitVec.toNat_ofNat]
  omega

theorem packed_mod_hundred (x : Nat) : packed (x % 100) = BitVec.ofNat 8 (16 * (x % 100 / 10) + x % 10) := by
  rw [packed, packedNat, Nat.mod_mod_of_dvd x (by decide : 10 ∣ 100)]

/-- The tests on the low digit find its decimal carry. -/
theorem packedNat_low_iff (x y : Nat) :
    packedNat x % 16 + packedNat y % 16 ≥ 16 ∨ (packedNat x + packedNat y) % 256 % 16 > 9 ↔ x % 10 + y % 10 ≥ 10 := by
  have hx := packedNat_lowNibble x
  have hy := packedNat_lowNibble y
  omega

/-- The tests on the high digit find the decimal carry of the sum, though they see A before the low correction (92 D18). -/
theorem packedNat_high_iff {x y : Nat} (hx : x < 100) (hy : y < 100) :
    packedNat x + packedNat y ≥ 256 ∨ (packedNat x + packedNat y) % 256 > 0x99 ↔ x + y ≥ 100 := by
  have hSum := packedNat_add x y
  have hCarry : packedNat (x + y) < 160 ↔ x + y < 100 := packedNat_lt_packedNat (x + y) 100
  have hLow := packedNat_low_iff x y
  have hx' := packedNat_lt hx
  have hy' := packedNat_lt hy
  split at hSum <;> omega

/-- Both corrections give the packed sum mod 100. -/
theorem packedNat_add_corrected {x y : Nat} (hx : x < 100) (hy : y < 100) :
    ((packedNat x + packedNat y) % 256 + (if x % 10 + y % 10 ≥ 10 then 6 else 0) + (if x + y ≥ 100 then 96 else 0)) % 256 =
      packedNat ((x + y) % 100) := by
  have hSum := packedNat_add x y
  have hWrap := packedNat_lt (Nat.mod_lt (x + y) (by decide : 100 > 0))
  generalize (if x % 10 + y % 10 ≥ 10 then 6 else 0) = low at hSum ⊢
  split
  next hCarry =>
    have hMod : (x + y) % 100 + 100 = x + y := by omega
    have hHundred := packedNat_add_hundred ((x + y) % 100)
    rw [hMod] at hHundred
    omega
  next hCarry =>
    have hMod : (x + y) % 100 = x + y := Nat.mod_eq_of_lt (Nat.lt_of_not_ge hCarry)
    rw [hMod] at hWrap ⊢
    omega

/-- Both corrections give the packed difference mod 100: the number that gives `x` when `y` is added again. -/
theorem packedNat_sub_corrected {x y : Nat} (hx : x < 100) (hy : y < 100) :
    ((256 - packedNat y + packedNat x) % 256 + 256 - (if x % 10 < y % 10 then 6 else 0) - (if x < y then 96 else 0)) % 256 =
      packedNat ((x + 100 - y) % 100) := by
  have hSum := packedNat_add ((x + 100 - y) % 100) y
  have hWrap := packedNat_lt (Nat.mod_lt (x + 100 - y) (by decide : 100 > 0))
  have hBorrow : (x + 100 - y) % 100 % 10 + y % 10 ≥ 10 ↔ x % 10 < y % 10 := by omega
  have hLow : (if x % 10 < y % 10 then 6 else 0) ≤ 6 := by split <;> decide
  have hy' := packedNat_lt hy
  simp only [hBorrow] at hSum
  generalize (if x % 10 < y % 10 then 6 else 0) = low at hSum hLow ⊢
  split
  next h =>
    have hBack : (x + 100 - y) % 100 + y = x + 100 := by omega
    rw [hBack, packedNat_add_hundred] at hSum
    omega
  next h =>
    have hBack : (x + 100 - y) % 100 + y = x := by omega
    rw [hBack] at hSum
    omega

/-- DAA on the sum of two packed bytes, with the carries the addition left. -/
theorem daaResult_add8_packed {x y : Nat} {r : Sum8} (hx : x < 100) (hy : y < 100) (hr : r = add8 (packed x) (packed y)) :
    daaResult r.res false r.half r.carry = (packed ((x + y) % 100), decide (x + y ≥ 100)) := by
  have hRes : r.res.toNat = (packedNat x + packedNat y) % 256 := by
    rw [hr, add8_res_eq_ofNat, BitVec.toNat_ofNat, packed_toNat hx, packed_toNat hy]
  have hHalf : r.half = decide (packedNat x % 16 + packedNat y % 16 ≥ 16) := by
    rw [hr, add8_half, packed_toNat hx, packed_toNat hy]
  have hCarry : r.carry = decide (packedNat x + packedNat y ≥ 256) := by
    rw [hr, add8_carry, packed_toNat hx, packed_toNat hy]
  have hLow : daaLow r.res false r.half = if x % 10 + y % 10 ≥ 10 then 6 else 0 := by
    simp only [daaLow, hRes, hHalf, decide_eq_true_eq, packedNat_low_iff, Bool.false_eq_true, if_false]
  have hHigh : daaHigh r.res false r.carry = if x + y ≥ 100 then 96 else 0 := by
    simp only [daaHigh, hRes, hCarry, decide_eq_true_eq, packedNat_high_iff hx hy, Bool.false_eq_true, if_false]
  have hSum : daaSum r.res false r.half r.carry = packedNat ((x + y) % 100) := by
    simp only [daaSum, hRes, hLow, hHigh, packedNat_add_corrected hx hy, Bool.false_eq_true, if_false]
  have hSet : (if x + y ≥ 100 then 96 else 0) = 96 ↔ x + y ≥ 100 := by
    rw [ite_eq_left_iff]
    omega
  rw [daaResult_add, hSum, hHigh, decide_eq_decide.2 hSet, packed]

/-- DAA on the difference of two packed bytes, with the borrows the subtraction left. -/
theorem daaResult_sub8_packed {x y : Nat} {r : Sum8} (hx : x < 100) (hy : y < 100) (hr : r = sub8 (packed x) (packed y)) :
    daaResult r.res true r.half r.carry = (packed ((x + 100 - y) % 100), decide (x < y)) := by
  have hRes : r.res.toNat = (256 - packedNat y + packedNat x) % 256 := by
    rw [hr, ← packed_toNat hx, ← packed_toNat hy]
    exact BitVec.toNat_sub _ _
  have hHalf : r.half = decide (x % 10 < y % 10) := by
    rw [hr, sub8_half, packed_toNat hx, packed_toNat hy, packedNat_lowNibble, packedNat_lowNibble]
  have hCarry : r.carry = decide (x < y) := by
    rw [hr, sub8_carry, packed_toNat hx, packed_toNat hy, decide_eq_decide, packedNat_lt_packedNat]
  have hSum : daaSum r.res true r.half r.carry = packedNat ((x + 100 - y) % 100) := by
    simp only [daaSum, daaLow, daaHigh, if_true, decide_eq_true_eq, hRes, hHalf, hCarry, packedNat_sub_corrected hx hy]
  rw [daaResult_sub, hSum, hCarry, packed]

/-- DAA after an accumulator operation works on that operation's result and flags. -/
theorem decimalAdjust_withAlu (s : State) (o : AluOut) :
    decimalAdjust (s.withAlu o) = s.withAlu (daaOut o.a o.n o.h o.c) := by
  rw [decimalAdjust_eq]
  simp only [State.withAlu, Regs.flagN, Regs.flagH, Regs.flagC, flagByte_n, flagByte_h, flagByte_c]

theorem State.withAlu_flagC (s : State) (o : AluOut) : (s.withAlu o).regs.flagC = o.c := flagByte_c ..

/-- A and C after an accumulator operation on B and then DAA. -/
theorem decimalAdjust_accumulateB (op : AluOp) (s : State) {o : AluOut} {p : Byte × Bool}
    (hOut : aluEval op s.regs.a s.regs.b s.regs.flagC = o) (hDaa : daaResult o.a o.n o.h o.c = p) :
    (decimalAdjust (accumulate op (.operand (.reg .b)) s)).regs.a = p.1 ∧
      (decimalAdjust (accumulate op (.operand (.reg .b)) s)).regs.flagC = p.2 := by
  subst hOut hDaa
  rw [accumulate_eq, decimalAdjust_withAlu, State.withAlu_flagC]
  exact ⟨rfl, rfl⟩

/-- Settles O22: the flags of the packed sum or difference make DAA correct each digit by its decimal carry or borrow. -/
theorem daaIsDecimal : Obligations.DaaIsDecimal := by
  unfold Obligations.DaaIsDecimal
  intro x y s t u hx hy hA hB hDaa
  change s.regs.a = packed x at hA
  change s.regs.b = packed y at hB
  cases hDaa
  constructor
  · intro hAdd
    cases hAdd
    rw [← packed_mod_hundred (x + y)]
    exact decimalAdjust_accumulateB .add s rfl (daaResult_add8_packed hx hy (congrArg₂ add8 hA hB))
  · intro hSub
    cases hSub
    rw [← packed_mod_hundred (x + 100 - y)]
    exact decimalAdjust_accumulateB .sub s rfl (daaResult_sub8_packed hx hy (congrArg₂ sub8 hA hB))

/-! ## CPL, SCF and CCF (R240, R241, R242) -/

theorem exec_decodeAt_cpl (n b : Byte) (s : State) : exec (decodeAt 0x2F n b) s = .next (complementA s) := rfl

theorem exec_decodeAt_scf (n b : Byte) (s : State) : exec (decodeAt 0x37 n b) s = .next (setCarryFlag s) := rfl

theorem exec_decodeAt_ccf (n b : Byte) (s : State) : exec (decodeAt 0x3F n b) s = .next (complementCarryFlag s) := rfl

/-- Settles O23, by what each of the three stores in F; the complement of A is its difference from 255. -/
theorem flagInstructions : Obligations.FlagInstructions := by
  unfold Obligations.FlagInstructions
  intro n b s
  refine ⟨?_, ?_, ?_⟩
  · rw [exec_decodeAt_cpl, complementA, State.setFlags, Regs.setFlags_eq, ← BitVec.allOnes_sub_eq_not]; rfl
  · rw [exec_decodeAt_scf, setCarryFlag, State.setFlags, Regs.setFlags_eq]; rfl
  · rw [exec_decodeAt_ccf, complementCarryFlag, State.setFlags, Regs.setFlags_eq]; rfl

end Sys2Proof.Machine

/-! PROOFS. The 16-bit arithmetic: ADD HL,rr (O24), and INC rr and DEC rr (O25). -/

namespace Sys2Proof.Machine

/-! ## ADD HL,rr (R142, R250) -/

theorem exec_decodeAt_addToHl (p : Pair) (n b : Byte) (s : State) :
    exec (decodeAt (0#2 ++ p.code ++ 1#1 ++ 1#3) n b) s = .next (addToHl p.reg16 s) := by
  cases p <;> rfl

theorem add16_res_eq_ofNat (a b : Word) : (add16 a b).res = BitVec.ofNat 16 (a.toNat + b.toNat) := by
  rw [BitVec.ofNat_add, BitVec.ofNat_toNat, BitVec.ofNat_toNat, BitVec.setWidth_eq, BitVec.setWidth_eq]
  rfl

theorem add16_carry (a b : Word) : (add16 a b).carry = decide (a.toNat + b.toNat ≥ 65536) := rfl

/-- After the fetches, ADD HL,rr is one internal M-cycle, and writes HL and F and nothing else. -/
theorem addToHl_advance (r : Reg16) (s : State) (n : Nat) :
    addToHl r (s.advance n) =
      { s with
        regs := { s.regs with
          h := hiByte (add16 (s.get16 .hl) (s.get16 r)).res
          l := loByte (add16 (s.get16 .hl) (s.get16 r)).res
          f := flagByte s.regs.flagZ false (add16 (s.get16 .hl) (s.get16 r)).half (add16 (s.get16 .hl) (s.get16 r)).carry }
        pc := s.pc + BitVec.ofNat 16 n
        mCycle := s.mCycle + n + 1 } := by
  rw [addToHl, State.hl, State.get16_advance, State.get16_advance, State.setFlags, Regs.setFlags_eq]
  rfl

/-- Settles O24 (the name `addToHl` is the model's), by the exact sum and its carries out of bits 11 and 15. -/
theorem addToHl_spec : Obligations.AddToHl := by
  unfold Obligations.AddToHl
  intro p n b s x y sum
  rw [exec_decodeAt_addToHl, addToHl_advance, add16_res_eq_ofNat, add16_half, add16_carry]
  rfl

/-! ## INC rr and DEC rr (R251, R252) -/

theorem exec_decodeAt_inc16 (p : Pair) (n b : Byte) (s : State) :
    exec (decodeAt (0#2 ++ p.code ++ 0#1 ++ 3#3) n b) s = .next (inc16 p.reg16 s) := by
  cases p <;> rfl

theorem exec_decodeAt_dec16 (p : Pair) (n b : Byte) (s : State) :
    exec (decodeAt (0#2 ++ p.code ++ 1#1 ++ 3#3) n b) s = .next (dec16 p.reg16 s) := by
  cases p <;> rfl

/-- A write of a 16-bit operand after the fetches and one internal M-cycle. -/
theorem State.set16_internal_advance (r : Reg16) (v : Word) (s : State) (n : Nat) :
    (s.advance n).internal.set16 r v =
      { s.set16 r v with pc := s.pc + BitVec.ofNat 16 n, mCycle := s.mCycle + n + 1 } := by
  cases r <;> rfl

theorem inc16_advance (r : Reg16) (s : State) (n : Nat) :
    inc16 r (s.advance n) =
      { s.set16 r (s.get16 r + 1) with pc := s.pc + BitVec.ofNat 16 n, mCycle := s.mCycle + n + 1 } := by
  rw [inc16, State.get16_advance, State.set16_internal_advance]

theorem dec16_advance (r : Reg16) (s : State) (n : Nat) :
    dec16 r (s.advance n) =
      { s.set16 r (s.get16 r - 1) with pc := s.pc + BitVec.ofNat 16 n, mCycle := s.mCycle + n + 1 } := by
  rw [dec16, State.get16_advance, State.set16_internal_advance]

/-- No write of BC, DE, HL or SP reaches F. -/
theorem State.set16_pair_f (s : State) (p : Pair) (v : Word) : (s.set16 p.reg16 v).regs.f = s.regs.f := by
  cases p <;> rfl

/-- BC, DE, HL and SP read as the word that was written: the halves of a pair put together again, and SP itself. -/
theorem State.get16_set16_pair (s : State) (p : Pair) (v : Word) : (s.set16 p.reg16 v).get16 p.reg16 = v := by
  cases p
  case sp => rfl
  all_goals exact append_hiByte_loByte v

/-- Settles O25, by the effect of each operation after one fetch, and what a written pair reads as. -/
theorem incDecWord : Obligations.IncDecWord := by
  unfold Obligations.IncDecWord
  intro p n b s up down
  refine ⟨?_, ?_, s.set16_pair_f p _, s.set16_pair_f p _, s.get16_set16_pair p _, s.get16_set16_pair p _⟩
  · rw [exec_decodeAt_inc16, inc16_advance]; rfl
  · rw [exec_decodeAt_dec16, dec16_advance]; rfl

end Sys2Proof.Machine

/-! PROOFS. The rotates, shifts and SWAP of the CB page (O27), and the rotates of the accumulator (O26). -/

namespace Sys2Proof.Machine

/-! ## The results of the eight operations (R260 to R280) -/

/-- The OR of two parts in disjoint places puts them side by side. -/
theorem append_zero_or_zero_append {m n : Nat} (x : BitVec m) (y : BitVec n) : (x ++ 0#n) ||| (0#m ++ y) = x ++ y := by
  rw [BitVec.or_append, BitVec.or_zero, BitVec.zero_or]

theorem zero_append_or_append_zero {m n : Nat} (x : BitVec m) (y : BitVec n) : (0#m ++ y) ||| (x ++ 0#n) = x ++ y := by
  rw [BitVec.or_comm, append_zero_or_zero_append]

theorem bitByte_zero (c : Bool) : bitByte c 0 = 0#7 ++ BitVec.ofBool c := by cases c <;> rfl

theorem bitByte_seven (c : Bool) : bitByte c 7 = BitVec.ofBool c ++ 0#7 := by cases c <;> rfl

/-- A left shift by one with `c` put into bit 0. -/
theorem shiftLeft_or_bitByte (v : Byte) (c : Bool) : v <<< 1 ||| bitByte c 0 = v.extractLsb' 0 7 ++ BitVec.ofBool c :=
  calc
    v <<< 1 ||| bitByte c 0 = (v.extractLsb' 0 7 ++ 0#1) ||| (0#7 ++ BitVec.ofBool c) :=
      congrArg₂ _ (BitVec.shiftLeft_eq_concat_of_lt (by decide)) (bitByte_zero c)
    _ = v.extractLsb' 0 7 ++ BitVec.ofBool c := append_zero_or_zero_append _ _

/-- A right shift by one with `c` put into bit 7. -/
theorem ushiftRight_or_bitByte (v : Byte) (c : Bool) : v >>> 1 ||| bitByte c 7 = BitVec.ofBool c ++ v.extractLsb' 1 7 :=
  calc
    v >>> 1 ||| bitByte c 7 = (0#1 ++ v.extractLsb' 1 7) ||| (BitVec.ofBool c ++ 0#7) :=
      congrArg₂ _ (BitVec.ushiftRight_eq_extractLsb'_of_lt (by decide)) (bitByte_seven c)
    _ = BitVec.ofBool c ++ v.extractLsb' 1 7 := zero_append_or_append_zero _ _

theorem extractLsb'_one_eq_ofBool {w : Nat} (x : BitVec w) (i : Nat) : x.extractLsb' i 1 = BitVec.ofBool (x.getLsbD i) := by
  ext j hj
  obtain rfl : j = 0 := by omega
  simp

/-- The bit that a left shift by one moves out, in the place of bit 0. -/
theorem ushiftRight_seven (v : Byte) : v >>> 7 = bitByte (v.getLsbD 7) 0 := by
  rw [bitByte_zero, ← extractLsb'_one_eq_ofBool]
  exact BitVec.ushiftRight_eq_extractLsb'_of_lt (by decide)

/-- The bit that a right shift by one moves out, in the place of bit 7. -/
theorem shiftLeft_seven (v : Byte) : v <<< 7 = bitByte (v.getLsbD 0) 7 := by
  rw [bitByte_seven, ← extractLsb'_one_eq_ofBool]
  exact BitVec.shiftLeft_eq_concat_of_lt (by decide)

theorem shiftEval_rlc (v : Byte) (c : Bool) : shiftEval .rlc v c = (v.rotateLeft 1, v.getLsbD 7) := by
  rw [shiftEval, ← ushiftRight_seven, BitVec.rotateLeft_def]

theorem shiftEval_rrc (v : Byte) (c : Bool) : shiftEval .rrc v c = (v.rotateRight 1, v.getLsbD 0) := by
  rw [shiftEval, ← shiftLeft_seven, BitVec.rotateRight_def]

theorem shiftEval_rl (v : Byte) (c : Bool) :
    shiftEval .rl v c = (v.extractLsb' 0 7 ++ BitVec.ofBool c, v.getLsbD 7) := by
  rw [shiftEval, shiftLeft_or_bitByte]

theorem shiftEval_rr (v : Byte) (c : Bool) :
    shiftEval .rr v c = (BitVec.ofBool c ++ v.extractLsb' 1 7, v.getLsbD 0) := by
  rw [shiftEval, ushiftRight_or_bitByte]

theorem shiftEval_sla (v : Byte) (c : Bool) : shiftEval .sla v c = (BitVec.ofNat 8 (2 * v.toNat), v.getLsbD 7) := by
  have hDouble : v <<< 1 = BitVec.ofNat 8 (2 * v.toNat) := by
    apply BitVec.eq_of_toNat_eq
    rw [BitVec.toNat_shiftLeft, BitVec.toNat_ofNat, Nat.shiftLeft_eq, Nat.mul_comm]
  rw [shiftEval, hDouble]

theorem shiftEval_srl (v : Byte) (c : Bool) : shiftEval .srl v c = (BitVec.ofNat 8 (v.toNat / 2), v.getLsbD 0) := by
  have hHalf : v >>> 1 = BitVec.ofNat 8 (v.toNat / 2) := by
    apply BitVec.eq_of_toNat_eq
    rw [BitVec.toNat_ushiftRight, BitVec.toNat_ofNat, Nat.shiftRight_eq_div_pow, Nat.mod_eq_of_lt (by omega)]
  rw [shiftEval, hHalf]

/-- Bit 7 is 0 after the shift, and is then put back as it was; the bits below it come from one place higher. -/
theorem shiftEval_sra (v : Byte) (c : Bool) : shiftEval .sra v c = (v.sshiftRight 1, v.getLsbD 0) := by
  have hSign : v >>> 1 ||| v &&& 0x80 = v.sshiftRight 1 := by
    have hTwoPow : (0x80 : Byte) = BitVec.twoPow 8 7 := by decide
    ext i hi
    rw [hTwoPow, BitVec.getElem_sshiftRight, BitVec.getElem_or, BitVec.getElem_ushiftRight, BitVec.getElem_and,
      BitVec.getElem_twoPow]
    by_cases h : i = 7
    · subst h
      simp [BitVec.msb_eq_getLsbD_last]
    · have hIn : 1 + i < 8 := by omega
      simp [h, hIn]
  rw [shiftEval, hSign]

/-- The low nibble goes into the high place, the high nibble into the low one. -/
theorem shiftEval_swap (v : Byte) (c : Bool) :
    shiftEval .swap v c = (v.extractLsb' 0 4 ++ v.extractLsb' 4 4, false) := by
  have hMask : (v &&& 0x0F).extractLsb' 0 4 = v.extractLsb' 0 4 :=
    BitVec.extractLsb'_and.trans BitVec.and_allOnes
  have hHigh : (v &&& 0x0F) <<< 4 = v.extractLsb' 0 4 ++ 0#4 := by
    rw [← hMask]
    exact BitVec.shiftLeft_eq_concat_of_lt (by decide)
  have hLow : v >>> 4 = 0#4 ++ v.extractLsb' 4 4 := BitVec.ushiftRight_eq_extractLsb'_of_lt (by decide)
  rw [shiftEval, hHigh, hLow]
  exact congrArg (·, false) (append_zero_or_zero_append _ _)

/-! ## The CB page's rotates and shifts (R264) -/

theorem exec_decodeAt_cb (cb b : Byte) (s : State) : exec (decodeAt 0xCB cb b) s = .next (cbPage cb s) := exec_cbRow cb s

/-- R113: the slot with a register's code is that register. -/
theorem slotOperand_code (r : Reg8) : slotOperand r.code = .reg r := by cases r <;> rfl

/-- R118: the group 0 of the CB page, over its operation and its slot. -/
theorem cbPage_shift (op : ShiftOp) (z : BitVec 3) (s : State) :
    cbPage (0#2 ++ op.code ++ z) s = shift8 op (slotOperand z) s := by
  cases op <;> cases z using field3_cases <;> rfl

/-- After the fetches a register is rotated or shifted with no further M-cycle. -/
theorem shift8_reg_advance (op : ShiftOp) (r : Reg8) (s : State) (n : Nat) :
    shift8 op (.reg r) (s.advance n) =
      let p := shiftEval op (s.regs.get r) s.regs.flagC
      { s with
        regs := { s.regs.set r p.1 with f := flagByte (p.1 == 0x00) false false p.2 }
        pc := s.pc + BitVec.ofNat 16 n
        mCycle := s.mCycle + n } := by
  rw [shift8, State.setFlags, Regs.setFlags_eq]
  rfl

/-- After the fetches, one M-cycle reads the byte at HL and one writes the result back. -/
theorem shift8_atHl_advance (op : ShiftOp) (s : State) (n : Nat) :
    shift8 op .atHl (s.advance n) =
      let p := shiftEval op (s.bus.read s.hl) s.regs.flagC
      { s with
        regs := { s.regs with f := flagByte (p.1 == 0x00) false false p.2 }
        bus := s.bus.write s.hl p.1
        pc := s.pc + BitVec.ofNat 16 n
        mCycle := s.mCycle + n + 2 } := by
  rw [shift8, State.setFlags, Regs.setFlags_eq]
  rfl

/-- A rotate or shift answers, in both operand forms, what `shiftEval` gives. -/
theorem shiftForms_shiftEval (op : ShiftOp) : ShiftForms op (shiftEval op) := by
  intro s r b
  constructor
  · rw [exec_decodeAt_cb, cbPage_shift, slotOperand_code, shift8_reg_advance]; rfl
  · rw [exec_decodeAt_cb, cbPage_shift, (slotOperand_eq_atHl_iff _).2 rfl, shift8_atHl_advance]; rfl

/-- It is enough to say what `shiftEval` gives. -/
theorem ShiftForms.of_shiftEval {op : ShiftOp} {out : Byte → Bool → Byte × Bool}
    (h : ∀ v c, shiftEval op v c = out v c) : ShiftForms op out := by
  have hOut : shiftEval op = out := funext fun v => funext fun c => h v c
  exact hOut ▸ shiftForms_shiftEval op

/-- Settles O27, by the result of each of the eight operations. -/
theorem cbShifts : Obligations.CbShifts :=
  ⟨.of_shiftEval shiftEval_rlc, .of_shiftEval shiftEval_rrc, .of_shiftEval shiftEval_rl, .of_shiftEval shiftEval_rr,
    .of_shiftEval shiftEval_sla, .of_shiftEval shiftEval_sra, .of_shiftEval shiftEval_swap, .of_shiftEval shiftEval_srl⟩

/-! ## The accumulator's rotates (R260 to R263) -/

/-- After the fetches a rotate writes A and F and nothing else, and Z is 0 whatever the result. -/
theorem rotateA_advance (op : ShiftOp) (s : State) (n : Nat) :
    rotateA op (s.advance n) =
      let p := shiftEval op s.regs.a s.regs.flagC
      { s with
        regs := { s.regs with a := p.1, f := flagByte false false false p.2 }
        pc := s.pc + BitVec.ofNat 16 n
        mCycle := s.mCycle + n } := by
  rw [rotateA, State.setFlags, Regs.setFlags_eq]
  rfl

theorem exec_decodeAt_rlca (n b : Byte) (s : State) : exec (decodeAt 0x07 n b) s = .next (rotateA .rlc s) := rfl

theorem exec_decodeAt_rrca (n b : Byte) (s : State) : exec (decodeAt 0x0F n b) s = .next (rotateA .rrc s) := rfl

theorem exec_decodeAt_rla (n b : Byte) (s : State) : exec (decodeAt 0x17 n b) s = .next (rotateA .rl s) := rfl

theorem exec_decodeAt_rra (n b : Byte) (s : State) : exec (decodeAt 0x1F n b) s = .next (rotateA .rr s) := rfl

/-- Settles O26, by the results of the four rotates, which are those of the CB page. -/
theorem rotateAccumulator : Obligations.RotateAccumulator := by
  unfold Obligations.RotateAccumulator
  intro n b s a after
  refine ⟨?_, ?_, ?_, ?_⟩
  · rw [exec_decodeAt_rlca, rotateA_advance, shiftEval_rlc]; rfl
  · rw [exec_decodeAt_rrca, rotateA_advance, shiftEval_rrc]; rfl
  · rw [exec_decodeAt_rla, rotateA_advance, shiftEval_rl]; rfl
  · rw [exec_decodeAt_rra, rotateA_advance, shiftEval_rr]; rfl

end Sys2Proof.Machine

/-! PROOFS. BIT of the CB page (O28), and its RES and SET (O29). -/

namespace Sys2Proof.Machine

/-! ## The groups 1 to 3 of the CB page (R118) -/

theorem fieldX_append (x : BitVec 2) (y z : BitVec 3) : fieldX (x ++ y ++ z) = x := by revert x y z; decide

theorem fieldY_append (x : BitVec 2) (y z : BitVec 3) : fieldY (x ++ y ++ z) = y := by revert x y z; decide

theorem fieldZ_append (x : BitVec 2) (y z : BitVec 3) : fieldZ (x ++ y ++ z) = z := by revert x y z; decide

theorem cbPage_bit (k z : BitVec 3) (s : State) : cbPage (1#2 ++ k ++ z) s = testBit k.toFin (slotOperand z) s := by
  rw [cbPage, fieldX_append, fieldY_append, fieldZ_append]; rfl

theorem cbPage_res (k z : BitVec 3) (s : State) : cbPage (2#2 ++ k ++ z) s = clearBit k.toFin (slotOperand z) s := by
  rw [cbPage, fieldX_append, fieldY_append, fieldZ_append]; rfl

theorem cbPage_set (k z : BitVec 3) (s : State) : cbPage (3#2 ++ k ++ z) s = setBit k.toFin (slotOperand z) s := by
  rw [cbPage, fieldX_append, fieldY_append, fieldZ_append]; rfl

/-- R113: the slot between L and A is the byte at HL. -/
theorem slotOperand_six : slotOperand 6#3 = .atHl := (slotOperand_eq_atHl_iff 6#3).2 rfl

/-! ## BIT (R285, R286) -/

/-- After the fetches a register's bit is tested with no further M-cycle. -/
theorem testBit_reg_advance (k : Fin 8) (r : Reg8) (s : State) (n : Nat) :
    testBit k (.reg r) (s.advance n) =
      { s with
        regs := { s.regs with f := flagByte (!(s.regs.get r).getLsbD k) false true s.regs.flagC }
        pc := s.pc + BitVec.ofNat 16 n
        mCycle := s.mCycle + n } := by
  rw [testBit, State.setFlags, Regs.setFlags_eq]
  rfl

/-- After the fetches one M-cycle reads the byte at HL, and none writes it back. -/
theorem testBit_atHl_advance (k : Fin 8) (s : State) (n : Nat) :
    testBit k .atHl (s.advance n) =
      { s with
        regs := { s.regs with f := flagByte (!(s.bus.read s.hl).getLsbD k) false true s.regs.flagC }
        pc := s.pc + BitVec.ofNat 16 n
        mCycle := s.mCycle + n + 1 } := by
  rw [testBit, State.setFlags, Regs.setFlags_eq]
  rfl

/-- Settles O28, by the effect of the test on a register and at HL. -/
theorem bitTest : Obligations.BitTest := by
  unfold Obligations.BitTest
  intro k r b s
  constructor
  · rw [exec_decodeAt_cb, cbPage_bit, slotOperand_code, testBit_reg_advance]; rfl
  · rw [exec_decodeAt_cb, cbPage_bit, slotOperand_six, testBit_atHl_advance]; rfl

/-! ## RES and SET (R287 to R290) -/

/-- The byte that RES writes back. -/
def bitCleared (k : Fin 8) (v : Byte) : Byte := v &&& ~~~((0x01 : Byte) <<< k.val)

/-- The byte that SET writes back. -/
def bitSet (k : Fin 8) (v : Byte) : Byte := v ||| ((0x01 : Byte) <<< k.val)

/-- The mask of bit `k` has that bit and no other. -/
theorem bitMask_getLsbD (k : Fin 8) (j : Nat) : ((0x01 : Byte) <<< k.val).getLsbD j = decide (j = k) := by
  have hMask : (0x01 : Byte) <<< k.val = BitVec.twoPow 8 k := (BitVec.twoPow_eq 8 k).symm
  rw [hMask, BitVec.getLsbD_twoPow, decide_eq_true k.isLt, Bool.true_and, decide_eq_decide]
  exact eq_comm

theorem bitCleared_getLsbD (k : Fin 8) (v : Byte) (j : Nat) :
    (bitCleared k v).getLsbD j = (v.getLsbD j && decide (j ≠ k)) := by
  rw [bitCleared, BitVec.getLsbD_and, BitVec.getLsbD_not, bitMask_getLsbD, decide_not]
  by_cases hIn : j < 8
  · rw [decide_eq_true hIn, Bool.true_and]
  · rw [BitVec.getLsbD_of_ge v j (Nat.le_of_not_lt hIn), Bool.false_and, Bool.false_and]

theorem bitSet_getLsbD (k : Fin 8) (v : Byte) (j : Nat) :
    (bitSet k v).getLsbD j = (v.getLsbD j || decide (j = k)) := by
  rw [bitSet, BitVec.getLsbD_or, bitMask_getLsbD]

/-- A byte-to-byte operation on a register, written back. -/
theorem store8_load8_reg_advance (g : Byte → Byte) (r : Reg8) (s : State) (n : Nat) :
    store8 (.reg r) (g (load8 (.reg r) (s.advance n)).1) (load8 (.reg r) (s.advance n)).2 =
      { s with
        regs := s.regs.set r (g (s.regs.get r))
        pc := s.pc + BitVec.ofNat 16 n
        mCycle := s.mCycle + n } := rfl

/-- A byte-to-byte operation at HL: one M-cycle reads the byte and one writes the result through the bus, whatever it is. -/
theorem store8_load8_atHl_advance (g : Byte → Byte) (s : State) (n : Nat) :
    store8 .atHl (g (load8 .atHl (s.advance n)).1) (load8 .atHl (s.advance n)).2 =
      { s with
        bus := s.bus.write s.hl (g (s.bus.read s.hl))
        pc := s.pc + BitVec.ofNat 16 n
        mCycle := s.mCycle + n + 2 } := rfl

theorem clearBit_eq (k : Fin 8) (o : Operand8) (s : State) :
    clearBit k o s = store8 o (bitCleared k (load8 o s).1) (load8 o s).2 := rfl

theorem setBit_eq (k : Fin 8) (o : Operand8) (s : State) :
    setBit k o s = store8 o (bitSet k (load8 o s).1) (load8 o s).2 := rfl

/-- Settles O29: the two bytes written back, bit by bit, and the effect of writing them to a register and at HL. -/
theorem bitWrite : Obligations.BitWrite := by
  unfold Obligations.BitWrite
  intro k r b s
  refine ⟨bitCleared k.toFin, bitSet k.toFin, bitCleared_getLsbD k.toFin, bitSet_getLsbD k.toFin, ?_, ?_, ?_, ?_⟩
  · rw [exec_decodeAt_cb, cbPage_res, slotOperand_code, clearBit_eq, store8_load8_reg_advance]; rfl
  · rw [exec_decodeAt_cb, cbPage_res, slotOperand_six, clearBit_eq, store8_load8_atHl_advance]; rfl
  · rw [exec_decodeAt_cb, cbPage_set, slotOperand_code, setBit_eq, store8_load8_reg_advance]; rfl
  · rw [exec_decodeAt_cb, cbPage_set, slotOperand_six, setBit_eq, store8_load8_atHl_advance]; rfl

end Sys2Proof.Machine

/-! PROOFS. Jumps (O31), returns (O33), and NOP, HALT, DI and EI (O34). -/

namespace Sys2Proof.Machine

/-! ## Jumps (R295 to R300) -/

theorem exec_decodeAt_jp (n b : Byte) (s : State) : exec (decodeAt 0xC3 n b) s = .next (jump none (b ++ n) s) := rfl

theorem exec_decodeAt_jpCond (cc : Cond) (n b : Byte) (s : State) :
    exec (decodeAt (3#2 ++ 0#1 ++ cc.code ++ 2#3) n b) s = .next (jump (some cc) (b ++ n) s) := by
  cases cc <;> rfl

theorem exec_decodeAt_jpHl (n b : Byte) (s : State) : exec (decodeAt 0xE9 n b) s = .next (jumpHl s) := rfl

theorem exec_decodeAt_jr (n b : Byte) (s : State) : exec (decodeAt 0x18 n b) s = .next (jumpRelative none n s) := rfl

theorem exec_decodeAt_jrCond (cc : Cond) (n b : Byte) (s : State) :
    exec (decodeAt (0#2 ++ 1#1 ++ cc.code ++ 0#3) n b) s = .next (jumpRelative (some cc) n s) := by
  cases cc <;> rfl

/-- A jump that is taken sets PC to its target in one M-cycle more than its fetches. -/
theorem jump_advance_of_taken {cc : Option Cond} {s : State} (h : taken cc s = true) (a : Word) (n : Nat) :
    jump cc a (s.advance n) = { s with pc := a, mCycle := s.mCycle + n + 1 } := if_pos h

theorem jump_advance_of_not_taken {cc : Option Cond} {s : State} (h : ¬taken cc s = true) (a : Word) (n : Nat) :
    jump cc a (s.advance n) = s.advance n := if_neg h

/-- A relative jump is a jump to the sum of PC and the offset. -/
theorem jumpRelative_eq_jump (cc : Option Cond) (off : Byte) (s : State) :
    jumpRelative cc off s = jump cc (s.pc + off.signExtend 16) s := rfl

/-- R299: the target of a relative jump after `n` fetches, as a sum of integers mod 2^16. -/
theorem relativeTarget_eq_ofInt (pc : Word) (n : Nat) (off : Byte) :
    pc + BitVec.ofNat 16 n + off.signExtend 16 = BitVec.ofInt 16 ((pc.toNat : Int) + n + off.toInt) := by
  rw [BitVec.ofInt_add, BitVec.ofInt_add, BitVec.ofInt_natCast, BitVec.ofInt_natCast, BitVec.ofNat_toNat, BitVec.setWidth_eq]
  rfl

/-- Settles O31: a jump that is taken sets PC to its target, one that is not leaves the state as the fetches left it. -/
theorem jumps : Obligations.Jumps := by
  unfold Obligations.Jumps
  intro cc n b s holds near
  have hHolds : holds ↔ taken (some cc) s = true := by
    cases cc with
    | nz => exact (Bool.not_eq_true' s.regs.flagZ).to_iff.symm
    | z => exact Iff.rfl
    | nc => exact (Bool.not_eq_true' s.regs.flagC).to_iff.symm
    | c => exact Iff.rfl
  have hNear : (s.advance 2).pc + n.signExtend 16 = near := relativeTarget_eq_ofInt s.pc 2 n
  refine ⟨?_, fun h => ?_, fun h => ?_, ?_, ?_, fun h => ?_, fun h => ?_⟩
  · rw [exec_decodeAt_jp, jump_advance_of_taken rfl]
  · rw [exec_decodeAt_jpCond, jump_advance_of_taken (hHolds.mp h)]
  · rw [exec_decodeAt_jpCond, jump_advance_of_not_taken (mt hHolds.mpr h)]; rfl
  · rw [exec_decodeAt_jpHl]; rfl
  · rw [exec_decodeAt_jr, jumpRelative_eq_jump, jump_advance_of_taken rfl, hNear]
  · rw [exec_decodeAt_jrCond, jumpRelative_eq_jump, jump_advance_of_taken (hHolds.mp h), hNear]
  · rw [exec_decodeAt_jrCond, jumpRelative_eq_jump, jump_advance_of_not_taken (mt hHolds.mpr h)]; rfl

/-! ## Returns (R303, R304, R305) -/

theorem exec_decodeAt_ret (n b : Byte) (s : State) : exec (decodeAt 0xC9 n b) s = .next s.returnBody := rfl

theorem exec_decodeAt_retCond (cc : Cond) (n b : Byte) (s : State) :
    exec (decodeAt (3#2 ++ 0#1 ++ cc.code ++ 0#3) n b) s = .next (retCond cc s) := by
  cases cc <;> rfl

theorem exec_decodeAt_reti (n b : Byte) (s : State) : exec (decodeAt 0xD9 n b) s = .next s.returnFromInterrupt := rfl

/-- R303: the word that SP points at goes into PC, in three M-cycles. -/
theorem State.returnBody_eq (s : State) :
    s.returnBody = { s with pc := s.bus.read (s.sp + 1) ++ s.bus.read s.sp, sp := s.sp + 2, mCycle := s.mCycle + 3 } := rfl

theorem State.internal_advance (s : State) (n : Nat) :
    (s.advance n).internal = { s with pc := s.pc + BitVec.ofNat 16 n, mCycle := s.mCycle + n + 1 } := rfl

/-- Settles O33, by the body of RET after the fetch; RET cc spends one M-cycle on the condition. -/
theorem returns : Obligations.Returns := by
  unfold Obligations.Returns
  intro cc n b s
  refine ⟨?_, ?_, ?_⟩
  · rw [exec_decodeAt_ret, State.returnBody_eq]; rfl
  · rw [exec_decodeAt_retCond, retCond, State.internal_advance, State.returnBody_eq]; rfl
  · rw [exec_decodeAt_reti, State.returnFromInterrupt, State.returnBody_eq]; rfl

/-! ## NOP, HALT, DI and EI (R310, R311, R313, R314) -/

theorem exec_decodeAt_nop (n b : Byte) (s : State) : exec (decodeAt 0x00 n b) s = .next s := rfl

theorem exec_decodeAt_halt (n b : Byte) (s : State) : exec (decodeAt 0x76 n b) s = .next (haltCpu s) := rfl

theorem exec_decodeAt_di (n b : Byte) (s : State) : exec (decodeAt 0xF3 n b) s = .next (setIme false s) := rfl

theorem exec_decodeAt_ei (n b : Byte) (s : State) : exec (decodeAt 0xFB n b) s = .next (setIme true s) := rfl

/-- Settles O34: after the fetch each of the four writes at most one flag of the machine. -/
theorem systemInstructions : Obligations.SystemInstructions := by
  unfold Obligations.SystemInstructions
  intro n b s
  refine ⟨?_, ?_, ?_, ?_⟩
  · rw [exec_decodeAt_nop]; rfl
  · rw [exec_decodeAt_halt, haltCpu]; rfl
  · rw [exec_decodeAt_di, setIme]; rfl
  · rw [exec_decodeAt_ei, setIme]; rfl

end Sys2Proof.Machine

/-! PROOFS. The interrupt controller (O44, O45), runs of T-cycles with IME false (O46, O49), the tick engine (O53), and the steps
of a stopped and of a halted machine (O50, O51). -/

namespace Sys2Proof.Machine

/-! ## The interrupt controller (R323 to R327) -/

theorem State.lowestRequest_pending_none_iff (s : State) : lowestRequest s.pending = none ↔ s.pending = 0 :=
  lowestRequest_none_iff (s.bus.io ioIE &&& s.bus.io ioIF)

theorem State.interruptTick_of_no_request {s : State} (h : s.pending = 0) : s.interruptTick = (s, false) := by
  rw [State.interruptTick, s.lowestRequest_pending_none_iff.mpr h]

/-- R325: with IME false a pending request clears HALT. -/
theorem State.interruptTick_wakes {s : State} (h : s.pending ≠ 0) (hIme : s.ime = false) :
    s.interruptTick = ({ s with halt := false }, false) := by
  rcases s.interruptTick_cases with ⟨hNone, _⟩ | ⟨i, _, hOn, _⟩ | ⟨i, _, _, e⟩
  · exact absurd (s.lowestRequest_pending_none_iff.mp hNone) h
  · rw [hIme] at hOn; cases hOn
  · exact e

/-- R326, R327: with IME true the lowest request is dispatched. -/
theorem State.interruptTick_dispatches {s : State} {i : Fin 5} (h : lowestRequest s.pending = some i) (hIme : s.ime = true) :
    s.interruptTick = (s.takeInterrupt i, true) := by
  rw [State.interruptTick, h]
  exact if_pos hIme

/-- Settles O44: with a pending request HALT is cleared, by the dispatch or, with IME false, alone. -/
theorem haltWake : Obligations.HaltWake := by
  unfold Obligations.HaltWake
  intro s p
  refine ⟨State.interruptTick_of_no_request, State.interruptTick_wakes, fun h => ?_⟩
  rcases s.interruptTick_cases with ⟨hNone, _⟩ | ⟨i, _, _, e⟩ | ⟨i, _, _, e⟩
  · exact absurd (s.lowestRequest_pending_none_iff.mp hNone) h
  · rw [e]; rfl
  · rw [e]

/-- Settles O45: the lowest set bit of the pending set is the source that is dispatched. -/
theorem dispatch : Obligations.Dispatch := by
  unfold Obligations.Dispatch
  intro s i p hIme hBit hLower
  have hLowest : lowestRequest s.pending = some i := (lowestRequest_some_iff s.pending i).mpr ⟨hBit, hLower⟩
  rw [State.interruptTick_dispatches hLowest hIme]
  rfl

/-! ## T-cycles with IME false (R322, R325, R328) -/

/-- A run of T-cycles with IME false dispatches nothing. -/
theorem State.tcycles_masked {s : State} (n : Nat) (h : s.ime = false) :
    (s.tcycles n).2 = false ∧ (s.tcycles n).1.ime = false ∧ (s.tcycles n).1.sp = s.sp ∧ (s.tcycles n).1.pc = s.pc := by
  induction n generalizing s with
  | zero => exact ⟨rfl, h, rfl, rfl⟩
  | succ k ih =>
    obtain ⟨hQuiet, hIme, hSp, hPc, _⟩ := State.tcycle_masked h
    obtain ⟨hQuiet', hIme', hSp', hPc'⟩ := ih hIme
    exact ⟨Bool.or_eq_false_iff.mpr ⟨hQuiet, hQuiet'⟩, hIme', hSp'.trans hSp, hPc'.trans hPc⟩

/-- The addresses of SC, DIV, TIMA and IF. -/
def tickedAddresses : List Word := [0xFF02, 0xFF04, 0xFF05, 0xFF0F]

theorem State.peripheralTick_read_other (s : State) {x : Word} (h : x ∉ tickedAddresses) :
    s.peripheralTick.bus.read x = s.bus.read x := by
  simp only [tickedAddresses, List.mem_cons, List.not_mem_nil, or_false, not_or] at h
  obtain ⟨hSc, hDiv, hTima, hIf⟩ := h
  exact (State.timerTick_read_other _ x hDiv hTima hIf).trans (State.serialTick_read_other _ x hSc hIf)

/-- With IME false the T-cycles write no byte but SC, DIV, TIMA and IF. -/
theorem State.tcycles_masked_read_other {s : State} (n : Nat) (h : s.ime = false) {x : Word} (hx : x ∉ tickedAddresses) :
    (s.tcycles n).1.bus.read x = s.bus.read x := by
  induction n generalizing s with
  | zero => rfl
  | succ k ih =>
    obtain ⟨_, hIme, _, _, hBus⟩ := State.tcycle_masked h
    calc (s.tcycle.1.tcycles k).1.bus.read x
        _ = s.tcycle.1.bus.read x := ih hIme
        _ = s.bus.read x := by rw [hBus, s.peripheralTick_read_other hx]

/-- Settles O46, by induction on the number of T-cycles. -/
theorem ticksWithoutIme : Obligations.TicksWithoutIme := by
  unfold Obligations.TicksWithoutIme
  intro s n h
  obtain ⟨hQuiet, hIme, hSp, hPc⟩ := State.tcycles_masked n h
  obtain ⟨_, _, _, hCycle, hSys, hExe, _, hRegs⟩ := s.tcycles_params n
  exact ⟨hQuiet, hIme, hRegs, hSp, hPc, hCycle, hExe, hSys, fun x hx => State.tcycles_masked_read_other n h hx⟩

/-! ## DIV over a run of T-cycles (R322, R330, R332) -/

theorem State.serialTick_wf {s : State} (h : Memory.wf s.bus.mem = true) : Memory.wf s.serialTick.bus.mem = true := by
  unfold State.serialTick
  split
  · exact Bus.setIo_wf _ _ (Bus.setIo_wf _ _ h)
  · exact h

theorem State.timaTick_wf {s : State} (h : Memory.wf s.bus.mem = true) : Memory.wf s.timaTick.bus.mem = true := by
  unfold State.timaTick
  repeat' split
  · exact Bus.setIo_wf _ _ (Bus.setIo_wf _ _ h)
  · exact Bus.setIo_wf _ _ h
  · exact h

theorem State.peripheralTick_wf {s : State} (h : Memory.wf s.bus.mem = true) : Memory.wf s.peripheralTick.bus.mem = true :=
  State.timaTick_wf (State.divTick_wf (State.serialTick_wf h))

/-- The multiples of 256 in the interval that leaves out `c` and takes in `c + n`. -/
def divCount (c n : Nat) : Nat := (c + n) / 256 - c / 256

/-- One T-cycle comes to a multiple of 256 exactly when the incremented `sys_counter` is one. -/
theorem divCount_one (c : BitVec 16) : divCount c.toNat 1 = if (c + 1).toNat % 256 = 0 then 1 else 0 := by
  have hNext : (c + 1).toNat = (c.toNat + 1) % 65536 := BitVec.toNat_add c 1
  rw [hNext, divCount]
  split <;> omega

/-- TIMA's tick leaves DIV as DIV's own tick gives it. -/
theorem State.timerTick_div {s : State} (h : Memory.wf s.bus.mem = true) :
    s.timerTick.bus.io ioDIV = if s.sysCounter.toNat % 256 = 0 then s.bus.io ioDIV + 1 else s.bus.io ioDIV :=
  (s.divTick.timaTick_io_other (by decide) (by decide)).trans (State.divTick_div h)

theorem State.peripheralTick_div {s : State} (h : Memory.wf s.bus.mem = true) :
    s.peripheralTick.bus.io ioDIV = s.bus.io ioDIV + BitVec.ofNat 8 (divCount s.sysCounter.toNat 1) := by
  have hWf : Memory.wf ({ s with sysCounter := s.sysCounter + 1 } : State).serialTick.bus.mem = true := State.serialTick_wf h
  rw [State.peripheralTick, State.timerTick_div hWf, State.serialTick_sysCounter,
    State.serialTick_io_other _ (by decide) (by decide), divCount_one]
  split
  · rfl
  · exact (BitVec.add_zero _).symm

/-- The counts of two runs on end add up, though `sys_counter` wraps between them: 2^16 is a multiple of 256. -/
theorem divCount_succ (c : BitVec 16) (k : Nat) :
    divCount c.toNat (k + 1) = divCount c.toNat 1 + divCount (c + 1).toNat k := by
  have hNext : (c + 1).toNat = (c.toNat + 1) % 65536 := BitVec.toNat_add c 1
  have hBound : c.toNat < 65536 := c.isLt
  rw [hNext, divCount, divCount, divCount]
  omega

/-- With IME false DIV grows by the multiples of 256 that `sys_counter` comes to. -/
theorem State.tcycles_masked_div {s : State} (n : Nat) (hWf : Memory.wf s.bus.mem = true) (h : s.ime = false) :
    (s.tcycles n).1.bus.io ioDIV = s.bus.io ioDIV + BitVec.ofNat 8 (divCount s.sysCounter.toNat n) := by
  induction n generalizing s with
  | zero => simp [State.tcycles, divCount]
  | succ k ih =>
    obtain ⟨_, hIme, _, _, hBus⟩ := State.tcycle_masked h
    obtain ⟨_, _, _, _, hSys, _⟩ := s.tcycle_params
    have hWf' : Memory.wf s.tcycle.1.bus.mem = true := by rw [hBus]; exact State.peripheralTick_wf hWf
    calc (s.tcycle.1.tcycles k).1.bus.io ioDIV
        _ = s.tcycle.1.bus.io ioDIV + BitVec.ofNat 8 (divCount s.tcycle.1.sysCounter.toNat k) := ih hWf' hIme
        _ = s.bus.io ioDIV + BitVec.ofNat 8 (divCount s.sysCounter.toNat 1) +
              BitVec.ofNat 8 (divCount (s.sysCounter + 1).toNat k) := by rw [hBus, hSys, State.peripheralTick_div hWf]
        _ = s.bus.io ioDIV + BitVec.ofNat 8 (divCount s.sysCounter.toNat (k + 1)) := by
          rw [BitVec.add_assoc, ← BitVec.ofNat_add, ← divCount_succ]

/-- Settles O49, by induction on the number of T-cycles. -/
theorem divCountsOncePer256 : Obligations.DivCountsOncePer256 := by
  unfold Obligations.DivCountsOncePer256
  intro s n hSound h
  have hOne : divCount s.sysCounter.toNat 256 = 1 := by
    rw [divCount]
    omega
  refine ⟨State.tcycles_masked_div n hSound.memWf h, ?_⟩
  rw [State.tcycles_masked_div 256 hSound.memWf h, hOne]
  rfl

/-! ## The tick engine (R320, R328) -/

theorem State.tcycles_sysCounter (s : State) (n : Nat) : (s.tcycles n).1.sysCounter = s.sysCounter + BitVec.ofNat 16 n := by
  obtain ⟨_, _, _, _, hSys, _⟩ := s.tcycles_params n
  exact hSys

theorem State.tcycles_mCycle (s : State) (n : Nat) : (s.tcycles n).1.mCycle = s.mCycle := by
  obtain ⟨_, _, _, hCycle, _⟩ := s.tcycles_params n
  exact hCycle

theorem State.tcycles_dispatchCost (s : State) (n : Nat) : (s.tcycles n).1.dispatchCost = s.dispatchCost := by
  obtain ⟨_, _, hCost, _⟩ := s.tcycles_params n
  exact hCost

theorem State.runEngine_of_no_dispatch {s : State} (h : (s.tcycles (4 * s.mCycle)).2 = false) :
    s.runEngine = (s.tcycles (4 * s.mCycle)).1 := by
  simp only [State.runEngine, h, Bool.false_eq_true, if_false]

/-- After a dispatch the engine runs the T-cycles of its M-cycles too, and adds those to the step's. -/
theorem State.runEngine_of_dispatch {s : State} (h : (s.tcycles (4 * s.mCycle)).2 = true) :
    s.runEngine =
      { ((s.tcycles (4 * s.mCycle)).1.tcycles (4 * dispatchMcycles s.dispatchCost)).1 with
        mCycle := s.mCycle + dispatchMcycles s.dispatchCost } := by
  simp only [State.runEngine, h, if_true, State.tcycles_dispatchCost, State.tcycles_mCycle]

theorem State.runEngine_mCycle (s : State) :
    s.runEngine.mCycle =
      if (s.tcycles (4 * s.mCycle)).2 then s.mCycle + dispatchMcycles s.dispatchCost else s.mCycle := by
  split
  · next h => rw [State.runEngine_of_dispatch h]
  · next h => rw [State.runEngine_of_no_dispatch (Bool.eq_false_iff.mpr h), State.tcycles_mCycle]

/-- `sys_counter` counts four T-cycles for each M-cycle of the step, those of a dispatch included. -/
theorem State.runEngine_sysCounter (s : State) :
    s.runEngine.sysCounter = s.sysCounter + BitVec.ofNat 16 (4 * s.runEngine.mCycle) := by
  rw [State.runEngine_mCycle]
  split
  · next h =>
    rw [State.runEngine_of_dispatch h, Nat.mul_add, BitVec.ofNat_add, ← BitVec.add_assoc, ← s.tcycles_sysCounter]
    exact State.tcycles_sysCounter _ _
  · next h => rw [State.runEngine_of_no_dispatch (Bool.eq_false_iff.mpr h), State.tcycles_sysCounter]

/-- Settles O53, by the two ends of the engine, without a dispatch and with one. -/
theorem engineRuns : Obligations.EngineRuns := by
  unfold Obligations.EngineRuns
  intro s d first
  have hCost : d = dispatchMcycles s.dispatchCost := rfl
  rw [hCost]
  exact ⟨State.runEngine_of_no_dispatch, State.runEngine_of_dispatch, s.runEngine_mCycle, s.runEngine_sysCounter⟩

/-! ## The steps of a stopped and of a halted machine (R320, R340) -/

theorem step_stopped {s : State} {d : DecodeFatal} (h : s.fault = some d) : step s = .next s := by
  rw [step, h]

theorem step_halted {s : State} (hFault : s.fault = none) (hHalt : s.halt = true) : step s = .next s.beginStep.haltedStep := by
  rw [step, hFault, hHalt]
  rfl

/-- Settles O50: the fault is the first thing a step looks at. -/
theorem faultIsPermanent : Obligations.FaultIsPermanent := by
  unfold Obligations.FaultIsPermanent
  intro s d
  exact step_stopped

/-- Settles O51: the M-cycle of a halted step is counted from 0. -/
theorem haltedStep : Obligations.HaltedStep := by
  unfold Obligations.HaltedStep
  intro s
  exact step_halted

end Sys2Proof.Machine
